-- ==== Sys2Proof/Word.lean ====
section
/-! DEFINITION. The word types of the DPE: bytes, 16-bit CRC values and 32-bit status registers (00_scope.md R9, R10). -/

namespace Sys2Proof

/-- `u8` (R10). -/
abbrev Byte := BitVec 8

/-- `u16` (R10): the CRC and its accumulator (R9). -/
abbrev U16 := BitVec 16

/-- A status register (R40). -/
abbrev U32 := BitVec 32

end Sys2Proof
end

