-- ==== Sys2Proof/Config.lean ====
section
/-! DEFINITION. The implementation parameters of the DPE (00_scope.md R8) and the environment's free draws (R12, R41). -/

namespace Sys2Proof

/-- SessionId, OPEN in the spec (R8, decision D2): a type with equality, of which nothing else is to be assumed
(91_not_in_source.md N8). DESIGN CHOICE (log 1): a reference of any length, so that every countable type of sessions is a
part of it; the engine compares references and does nothing else with them (Laws/Sessions.lean). -/
structure SessionId where
  ref : List Byte
  deriving DecidableEq, Repr, Inhabited

namespace Config

/-- P_SYNC (R8). -/
def sync : Byte := 0x55#8
/-- P_CRC_POLY, reflected form (R8, R130). -/
def crcPoly : U16 := 0xA001#16
/-- P_CRC_INIT (R8, R132). -/
def crcInit : U16 := 0xFFFF#16
/-- P_TX_MAX, bytes per frame (R8, decision D8). -/
def txMax : Nat := 255
/-- P_RX_MAX, bytes per response (R8, decision D8). -/
def rxMax : Nat := 255
/-- P_BAUD, bits per second (R8). No rule reads it (R261). -/
def baud : Nat := 9600
/-- P_DATA_BITS (R8): the characters of R260 are written with eight data bits, without a parity bit (P_PARITY none). -/
def dataBits : Nat := 8
/-- P_STOP_BITS (R8, R260). -/
def stopBits : Nat := 1
/-- P_SETTLE_MS (R8). No rule reads the time (R360). -/
def settleMs : Nat := 200
/-- P_BACKOFF_MS (R8, decision D19). No rule reads the time (R360). -/
def backoffMs : Nat := 100

end Config

/-- P_POS_OOR_POLICY: what DEC_POS does with 101..254 (R8, R185). -/
inductive PosPolicy where
  | reject
  | clamp
  | pass
  deriving DecidableEq, Repr

/-- P_RX_EXCESS: what becomes of received bytes past exp_len (R8, R270). -/
inductive RxExcess where
  | discard
  | retain
  deriving DecidableEq, Repr

/-- The parameters of R8 that are decided or OPEN and the same for all sessions, fixed for the life of an instance (R340). -/
structure Params where
  /-- P_MAX_ATTEMPTS, legal 1..15 (R238). -/
  maxAttempts : Nat
  /-- P_CHECK_RX_CRC (decision D11). -/
  checkRxCrc : Bool
  /-- P_POS_OOR_POLICY (decision D14). -/
  posOor : PosPolicy
  /-- P_RX_EXCESS (decision D27). -/
  rxExcess : RxExcess
  /-- P_QUEUE_DEPTH: `some n` a positive natural, `none` UNBOUNDED (decision D21, OPEN). -/
  queueDepth : Option Nat
  /-- P_DISPATCH_TICK_MS, legal 500..1000 (decision D22, OPEN). No rule reads the time (R226, R360; log 21). -/
  dispatchTickMs : Nat
  deriving DecidableEq, Repr

/-- The decided parameters of R8. DESIGN CHOICE (log 2): of the OPEN ones the queue depth is UNBOUNDED and the dispatcher
tick the least. -/
def Params.decided : Params :=
  { maxAttempts := 6
    checkRxCrc := false
    posOor := .reject
    rxExcess := .discard
    queueDepth := none
    dispatchTickMs := 500 }

/-- What the environment answers in step X2 of EXCHANGE (R270). -/
inductive LineAnswer where
  /-- The drained bytes `avail`, under no law (R41). -/
  | bytes (avail : List Byte)
  /-- An I/O failure (R272). -/
  | ioFailure
  /-- The unexpected fault (R273). -/
  | fault
  deriving DecidableEq, Repr, Inhabited

/-- What the host operating system answers in step C2 of CONNECT for a non-empty port name: the two draws
`resolvable` and `o` of R266 as one value. -/
inductive PortAnswer where
  | unresolvable
  | opened
  | inUse
  | ioError
  | unsupported
  deriving DecidableEq, Repr, Inhabited

namespace Config

/-- P_POLL_TICK_MS (R8, R235, decision D37), OPEN for each session: a free value (log 2). The poll tick is the producers' own
and no rule reads the time (R322, R360; log 21). -/
opaque pollTickMs : SessionId → Nat

/-- A draw of EXCHANGE that nobody has listed in advance: a free value for each count (log 9). -/
opaque freeLine : Nat → LineAnswer

/-- A draw of CONNECT that nobody has listed in advance: a free value for each count (log 9). -/
opaque freePort : Nat → PortAnswer

end Config

end Sys2Proof
end

