-- ==== Sys2Proof/Syntax.lean ====
section
/-! DEFINITION. The operations and wire commands of the DPE as syntax: one constructor of Instr for each row of
spec/opcode_table.json (30_encoding.md R96, R102), their operand types (R103) and the transaction an agent gives. -/

namespace Sys2Proof

/-- ChannelTag (R33), in the order of its codes 0 to 6. -/
inductive ChannelTag where
  | position
  | state
  | direction
  | version
  | programming
  | control
  | other
  deriving DecidableEq, Repr

/-- CommandKind (R34). -/
inductive Kind where
  | move
  | openCmd
  | closeCmd
  | stopCmd
  | setdir
  | qpos
  | qstate
  | qdir
  | handshake
  | register
  | generic
  deriving DecidableEq, Repr

/-- PendingRequest (R32). `seq` is `none` while it is unassigned (R153, log 11). -/
structure PendingRequest where
  owner : SessionId
  payload : List Byte
  expLen : Nat
  target : ChannelTag
  seq : Option Nat
  deriving DecidableEq, Repr

/-- The instructions: first the wire commands of R96 (given to the DPE by a session they are ISSUE.<KIND>, R106, log 6),
then the operations of R102 in the order of their numbers. -/
inductive Instr where
  -- wire commands (R96)
  | move (a0 a1 p : Byte)
  | openCmd (a0 a1 : Byte)
  | closeCmd (a0 a1 : Byte)
  | stopCmd (a0 a1 : Byte)
  | setdir (a0 a1 d : Byte)
  | qpos (a0 a1 : Byte)
  | qstate (a0 a1 : Byte)
  | qdir (a0 a1 : Byte)
  | handshake (a0 a1 : Byte)
  | register (n0 n1 : Byte)
  | generic (p : List Byte) (expLen : Nat) (target : ChannelTag)
  -- checksum codec (41_crc.md)
  | crcInit
  | crcByte (b : Byte)
  | crcRead
  | checksum (bs : List Byte)
  -- frame builder (42_frame_builder.md)
  | build (p : List Byte)
  | expLen (p : List Byte) (hint : Option Nat)
  | mkMove (owner : SessionId) (a0 a1 p : Byte)
  | mkOpen (owner : SessionId) (a0 a1 : Byte)
  | mkClose (owner : SessionId) (a0 a1 : Byte)
  | mkStop (owner : SessionId) (a0 a1 : Byte)
  | mkSetdir (owner : SessionId) (a0 a1 d : Byte)
  | mkQpos (owner : SessionId) (a0 a1 : Byte)
  | mkQstate (owner : SessionId) (a0 a1 : Byte)
  | mkQdir (owner : SessionId) (a0 a1 : Byte)
  | mkHandshake (owner : SessionId) (a0 a1 : Byte)
  | mkRegister (owner : SessionId) (n0 n1 : Byte)
  | mkGeneric (owner : SessionId) (p : List Byte) (expLen : Nat) (target : ChannelTag)
  -- queue, producers and host (44_queue_dispatcher.md section 1)
  | enqueue (r : PendingRequest)
  | send (owner : SessionId) (p : List Byte) (expLen : Nat) (target : Option ChannelTag)
  | dispose
  -- dispatcher transitions (44_queue_dispatcher.md section 2)
  | dFetch
  | dSleep
  | dWake
  | dAttempt
  | dRetry
  | dDeliver
  | dStop
  -- frame parser (43_frame_parser.md)
  | vBase (buf : List Byte) (count expLen : Nat)
  | vCrc (buf : List Byte) (count : Nat)
  | vAddr (r : PendingRequest) (buf : List Byte)
  | vEcho (r : PendingRequest) (buf : List Byte)
  | vRegack (r : PendingRequest) (buf : List Byte)
  | vSuccess (r : PendingRequest) (buf : List Byte) (count : Nat)
  | decPos (r : PendingRequest) (buf : List Byte) (count : Nat)
  | decState (r : PendingRequest) (buf : List Byte) (count : Nat)
  | decDir (r : PendingRequest) (buf : List Byte) (count : Nat)
  | decVersion (r : PendingRequest) (buf : List Byte) (count : Nat)
  | decRegack (r : PendingRequest) (buf : List Byte) (count : Nat)
  | decode (r : PendingRequest) (buf : List Byte) (count : Nat)
  -- serial transport (45_serializer.md)
  | connect
  | disconnect (permanent : Bool)
  | exchange (frame : List Byte) (expLen : Nat)
  | readStatus (idx : Nat)
  | uartEncode (bs : List Byte)
  deriving DecidableEq, Repr

/-- What an agent gives the DPE, in one of the two encoding spaces of the opcode table. -/
inductive Transaction where
  /-- The operation space (R102): the op number, then the operand bytes (log 3). -/
  | op (bytes : List Byte)
  /-- The wire space (R96): a pre-CRC payload, with the expected length and target that its caller gives, which only a
  GENERIC payload uses (R96, R98). -/
  | wire (payload : List Byte) (expLen : Nat) (target : ChannelTag)
  deriving DecidableEq, Repr

/-- Why bytes are no instruction: the decoder's refusals, by name. -/
inductive DecodeError where
  /-- An op number that R102 does not assign (R104). -/
  | unassignedOp (op : Byte)
  /-- No op number: the transaction is empty. -/
  | noOp
  /-- The operand bytes end too soon (log 3). -/
  | truncated
  /-- A tag byte above 6 is no ChannelTag (R33). -/
  | badTag (b : Byte)
  /-- A byte that is neither false (0) nor true (1). -/
  | badBool (b : Byte)
  /-- A byte that is neither none (0) nor some (1). -/
  | badOption (b : Byte)
  deriving DecidableEq, Repr

end Sys2Proof
end

