-- ==== Sys2Proof/Machine/State.lean ====
section
/-! DEFINITION. The state of one DPE instance as plain data: the record of 10_state.md R20, the configuration of R39 and the
model's own fields (INVENTORY.md, State), the reasons a step can stop, and the state after reset (R53). -/

namespace Sys2Proof.Machine

/-- The agents that invoke operations (R15). -/
inductive Agent where
  /-- The host (R320). -/
  | host
  /-- A device session or the bridge (R15, R330). -/
  | producer (session : SessionId)
  /-- The single consumer of the queue (R223). -/
  | dispatcher
  deriving DecidableEq, Repr

/-- DSTATE (R29), in the order of its codes 0 to 5. -/
inductive DState where
  | idle
  | sleep
  | exch
  | backoff
  | deliver
  | stopped
  deriving DecidableEq, Repr

/-- BUS_STATE (R31), in the order of its codes 0 to 3. -/
inductive BusState where
  | unconnected
  | connecting
  | online
  | offline
  deriving DecidableEq, Repr

/-- OFFLINE_REASON (R31), in the order of its codes 0 to 7. -/
inductive OfflineReason where
  | none
  | configEmptyPort
  | configUnresolvablePort
  | portInUse
  | ioErrorOpen
  | unsupportedParams
  | ioErrorExchange
  | disconnected
  deriving DecidableEq, Repr

/-- TLOCK (R36). -/
inductive LockState where
  | free
  | heldExchange
  | heldConnect
  | heldDisconnect
  deriving DecidableEq, Repr

/-- The causes of R300 that are raised, in the order of their codes. Codes 0, 7 and 8 are never raised. -/
inductive Cause where
  | configEmptyPort
  | configUnresolvablePort
  | portInUse
  | ioErrorOpen
  | unsupportedParams
  | ioErrorExchange
  | commandFailure
  | dispatchFault
  | badArgument
  | disposed
  | badOpcode
  deriving DecidableEq, Repr

/-- The discard reasons (R190), in the order of their codes 1 to 9. -/
inductive DiscardReason where
  | short
  | noSync
  | badCrc
  | addrMismatch
  | posUnset
  | posOutOfRange
  | unrecognizedValue
  | noEcho
  | noRegAck
  deriving DecidableEq, Repr

/-- DeviceMotionState (R103). -/
inductive Motion where
  | stop
  | opening
  | closing
  | programming
  deriving DecidableEq, Repr

/-- DeviceDirectionSetting (R103). -/
inductive DirectionSetting where
  | direct
  | reverse
  deriving DecidableEq, Repr

/-- Value, what a decoder returns (R103). -/
inductive Value where
  | position (p : Byte)
  | motion (m : Motion)
  | direction (d : DirectionSetting)
  | version (v : Byte)
  | programmingAck (n0 n1 : Byte)
  deriving DecidableEq, Repr

/-- What decoding an answer ends in (R200). -/
inductive Decoded where
  | value (v : Value)
  | discard (reason : DiscardReason)
  | noEvent
  deriving DecidableEq, Repr

/-- The outcome of an exchange (R270). -/
inductive ExchangeOutcome where
  | bytes
  | notOnline
  | ioFailure
  | fault
  deriving DecidableEq, Repr

/-- LogEntry (R38). -/
structure LogEntry where
  cause : Byte
  seq : Option Nat
  info : List Byte
  deriving DecidableEq, Repr

/-- The events of the history (R44). A sequence number is optional as it is in PendingRequest (log 11). -/
inductive Event where
  | enq (seq : Nat) (owner : SessionId) (payload : List Byte) (expLen : Nat) (target : ChannelTag)
  | deq (seq : Option Nat)
  | tx (frame : List Byte)
  | rx (buf : List Byte) (count : Nat)
  | deliver (owner : SessionId) (seq : Option Nat) (buf : List Byte) (count : Nat) (success : Bool)
  | emitted (owner : SessionId) (target : ChannelTag) (value : Value)
  | discarded (owner : SessionId) (seq : Option Nat) (reason : DiscardReason)
  | logged (cause : Byte) (seq : Option Nat) (info : List Byte)
  | bus (state : BusState) (reason : OfflineReason)
  | disposed
  deriving DecidableEq, Repr

/-- The value an operation returns (the result column of R102). -/
inductive Reply where
  | unit
  | word (w : U16)
  | bytes (bs : List Byte)
  | nat (n : Nat)
  | request (r : PendingRequest)
  | seq (n : Nat)
  | answer (buf : List Byte) (count : Nat) (success : Bool)
  | bool (b : Bool)
  | decoded (d : Decoded)
  | outcome (o : ExchangeOutcome)
  | status (w : U32)
  | bits (bs : List Bool)
  deriving DecidableEq, Repr

/-- The result of a step of an operation (R13), with the two cases of a step that no result ends: the model's own (log 10). -/
inductive OpResult where
  /-- No operation has ended yet. -/
  | none
  /-- The operation has begun and goes on in a later step (R70). -/
  | underWay
  | ok (v : Reply)
  | refused (c : Cause)
  | notEnabled
  deriving DecidableEq, Repr

/-- The transport operation that holds TLOCK between its steps (R70, R264; log 8). -/
inductive TransportOp where
  | idle
  | connect
  /-- Between K1 and K2 (R268); the permanent one has both its steps inside D_STOP (R231). -/
  | disconnect
  /-- Between X1 and X2 (R270); `attempt` when it was invoked as D_ATTEMPT, not as EXCHANGE (R227; log 18). -/
  | exchange (expLen : Nat) (attempt : Bool)
  deriving DecidableEq, Repr

/-- A SEND that waits for the delivery of its request (R222; log 19). -/
structure SendWait where
  agent : Agent
  owner : SessionId
  seq : Nat
  deriving DecidableEq, Repr

/-- An operation that was not enabled and that its agent holds (R13, R221; log 7). -/
structure HeldOp where
  agent : Agent
  txn : Transaction
  deriving DecidableEq, Repr

/-- One move of an agent (log 7). -/
inductive Input where
  /-- An agent invokes an operation or a session gives a wire command. -/
  | invoke (agent : Agent) (txn : Transaction)
  /-- An agent tries the operation at this place of `held` again. -/
  | retry (place : Nat)
  /-- The transport operation under way takes its final step: C2, K2 or X2. -/
  | finish
  /-- The SEND at this place of `sends` looks for its delivery. -/
  | reply (place : Nat)
  /-- The dispatcher takes its enabled transition. -/
  | dispatch
  /-- A CONNECT of `connectReturns` returns, once TLOCK is free. -/
  | connectReturn
  /-- The host sets PortName (R265, R302). -/
  | configure (name : List Char)
  deriving DecidableEq, Repr

/-- The state of one DPE (R20), its configuration (R39) and the model's own fields. -/
structure State where
  /-- CRC_ACC (R22). -/
  crcAcc : U16
  /-- TXB (R23). -/
  txb : List Byte
  /-- RXB (R24). -/
  rxb : List Byte
  /-- RX_COUNT (R25). -/
  rxCount : Nat
  /-- Q, head first (R26). -/
  queue : List PendingRequest
  /-- ENQ_SEQ (R32). -/
  enqSeq : Nat
  /-- CUR (R28). -/
  cur : Option PendingRequest
  /-- DSTATE (R29). -/
  dstate : DState
  /-- ATTEMPT (R30). -/
  attempt : Nat
  /-- BUS_STATE (R31). -/
  busState : BusState
  /-- OFFLINE_REASON (R31). -/
  offlineReason : OfflineReason
  /-- PORT_OPEN (R35). -/
  portOpen : Bool
  /-- TLOCK (R36). -/
  tlock : LockState
  /-- DISPOSED (R37). -/
  disposed : Bool
  /-- LAST_CAUSE (R38). -/
  lastCause : Byte
  /-- LOG, oldest first (R38). -/
  log : List LogEntry
  /-- H, oldest first (R44). -/
  hist : List Event
  /-- The parameters of R8, fixed for the life of the instance (R340; log 2). -/
  params : Params
  /-- PortName (R265; log 2). -/
  portName : List Char
  /-- The transport operation under way (log 8). -/
  xop : TransportOp
  /-- The SENDs that wait (log 19). -/
  sends : List SendWait
  /-- How many CONNECTs that found the bus connected wait to return ok(true) until TLOCK is free (R267, R351; log 22). -/
  connectReturns : Nat
  /-- The operations that agents hold (log 7). -/
  held : List HeldOp
  /-- The moves to come (log 5, log 7). -/
  inputs : List Input
  /-- Answers of the line given in advance (log 9). -/
  lineIn : List LineAnswer
  /-- Answers of the port opening given in advance (log 9). -/
  portIn : List PortAnswer
  /-- The count of free draws (log 9). -/
  draws : Nat
  /-- The agent whose step is taken (log 10). -/
  agent : Agent
  /-- The result of the last step (R13; log 10). -/
  result : OpResult
  deriving DecidableEq, Repr

/-- Why the machine stops with a fault. -/
inductive Fault where
  /-- Raised by MemRead outside a buffer (R61, 93_implementation_defined.md section 2: "fault"); safe: the spec asks the
  model to stop there (log 15). -/
  | bufferRange
  deriving DecidableEq, Repr

/-- Why a step has no meaning. -/
inductive Refusal where
  /-- Raised by exec's arm of an instruction that has no meaning yet; safe. -/
  | notModelled (mnemonic : String)
  /-- Raised by the step for transaction bytes whose operands are no operands of their op number in the model's own operand
  encoding (log 16); safe: the spec has no such transaction. -/
  | malformedTransaction (reason : DecodeError)
  deriving DecidableEq, Repr

/-- Reset, the creation of an instance: the values of R53 and R340; the OPEN configuration as log 2 names it and the
model's own fields empty (log 5, 7, 8, 9, 10, 19, 22). -/
def State.reset : State :=
  { crcAcc := 0xFFFF#16
    txb := []
    rxb := []
    rxCount := 0
    queue := []
    enqSeq := 0
    cur := Option.none
    dstate := .idle
    attempt := 0
    busState := .unconnected
    offlineReason := .none
    portOpen := false
    tlock := .free
    disposed := false
    lastCause := 0#8
    log := []
    hist := []
    params := Params.decided
    portName := []
    xop := .idle
    sends := []
    connectReturns := 0
    held := []
    inputs := []
    lineIn := []
    portIn := []
    draws := 0
    agent := .host
    result := .none }

end Sys2Proof.Machine
end

