-- ==== Sys2Proof/Machine/Flags.lean ====
section
/-! DEFINITION. The DPE has no stored flags (10_state.md R42): the derived Booleans a caller can observe, in STATUS fields
(R45 to R49) and in the enabling conditions of the operations. -/

namespace Sys2Proof.Machine

/-- LOCK_HELD (R45): TLOCK is not FREE. -/
def State.lockHeld (s : State) : Bool := decide (s.tlock ≠ .free)

/-- EMPTY (R46). -/
def State.queueEmpty (s : State) : Bool := s.queue.isEmpty

/-- FULL (R46, R221): P_QUEUE_DEPTH is a natural number and the queue has that length. -/
def State.queueFull (s : State) : Bool :=
  match s.params.queueDepth with
  | some n => decide (s.queue.length = n)
  | none => false

/-- CUR_VALID (R47). -/
def State.curValid (s : State) : Bool := s.cur.isSome

/-- RX_BASE_VALID (R49): all of RXB was received, RXB is not empty and begins with the sync byte. -/
def State.rxBaseValid (s : State) : Bool :=
  decide (s.rxCount = s.rxb.length) && decide (s.rxb.head? = some Config.sync)

/-- The bus is ONLINE and the port open: an exchange writes (R270) and a CONNECT is a no-op (R267). -/
def State.connected (s : State) : Bool := decide (s.busState = .online) && s.portOpen

end Sys2Proof.Machine
end

