-- ==== Sys2Proof/Machine/Crc.lean ====
section
/-! DEFINITION. The CRC functions of the Checksum Codec (41_crc.md R130 to R133). -/

namespace Sys2Proof.Machine

/-- One shift step of the reflected Modbus CRC (R130). -/
def crcBit (c : U16) : U16 := if c.getLsbD 0 then (c >>> 1) ^^^ Config.crcPoly else c >>> 1

/-- `f` applied `n` times (R131 writes `crc_bit^8`). -/
def iterate {α : Type} (f : α → α) : Nat → α → α
  | 0, a => a
  | n + 1, a => iterate f n (f a)

/-- One byte folded into an accumulator (R131). -/
def crcByte (c : U16) (b : Byte) : U16 := iterate crcBit 8 (c ^^^ b.setWidth 16)

/-- The CRC of a byte sequence (R132). -/
def crc16 (bs : List Byte) : U16 := bs.foldl crcByte Config.crcInit

/-- `v[7:0]` of a 16-bit value (R10). -/
def lowByte (c : U16) : Byte := c.extractLsb' 0 8

/-- `v[15:8]` of a 16-bit value (R10). -/
def highByte (c : U16) : Byte := c.extractLsb' 8 8

/-- A CRC value on the wire, low byte first (R133). -/
def trailer (c : U16) : List Byte := [lowByte c, highByte c]

end Sys2Proof.Machine
end

