-- ==== Sys2Proof/Machine/Frames.lean ====
section
/-! DEFINITION. Payloads, kinds, lengths and frames (10_state.md R34, 30_encoding.md R90 to R96, 42_frame_builder.md R150 to R164). -/

namespace Sys2Proof.Machine

/-- CommandKind of a payload (R34): the length, the sync byte, group and code, and the constant bytes. -/
def kind (p : List Byte) : Kind :=
  match p with
  | [y, _, _, g, c] =>
    if y = 0x55#8 then
      if g = 0x03#8 ∧ c = 0x01#8 then .openCmd
      else if g = 0x03#8 ∧ c = 0x02#8 then .closeCmd
      else if g = 0x03#8 ∧ c = 0x03#8 then .stopCmd
      else .generic
    else .generic
  | [y, _, _, g, c, x] =>
    if y = 0x55#8 then
      if g = 0x03#8 ∧ c = 0x04#8 then .move
      else if g = 0x01#8 ∧ c = 0x02#8 ∧ x = 0x01#8 then .qpos
      else if g = 0x01#8 ∧ c = 0x05#8 ∧ x = 0x01#8 then .qstate
      else if g = 0x01#8 ∧ c = 0x03#8 ∧ x = 0x01#8 then .qdir
      else if g = 0x01#8 ∧ c = 0xFE#8 ∧ x = 0x01#8 then .handshake
      else .generic
    else .generic
  | [y, _, _, g, c, x, _] =>
    if y = 0x55#8 ∧ g = 0x02#8 ∧ c = 0x03#8 ∧ x = 0x01#8 then .setdir else .generic
  | [y, b1, b2, g, c, x, _, _] =>
    if y = 0x55#8 ∧ g = 0x02#8 ∧ c = 0x00#8 ∧ b1 = 0x00#8 ∧ b2 = 0x00#8 ∧ x = 0x02#8 then .register else .generic
  | _ => .generic

/-- The kind code of R96, shown by DISP_STATUS (R47). -/
def kindCode : Kind → BitVec 4
  | .generic => 0
  | .move => 1
  | .openCmd => 2
  | .closeCmd => 3
  | .stopCmd => 4
  | .setdir => 5
  | .qpos => 6
  | .qstate => 7
  | .qdir => 8
  | .handshake => 9
  | .register => 10

/-- The echo kinds (R34): the answer repeats the request. -/
def isEchoKind : Kind → Bool
  | .move | .openCmd | .closeCmd | .stopCmd | .setdir => true
  | .qpos | .qstate | .qdir | .handshake | .register | .generic => false

/-- The addressed kinds (R34): every kind except REGISTER and GENERIC. -/
def isAddressedKind : Kind → Bool
  | .register | .generic => false
  | .move | .openCmd | .closeCmd | .stopCmd | .setdir | .qpos | .qstate | .qdir | .handshake => true

/-- EXP_LEN, the central expected-response-length table (R152). -/
def expLenOf (p : List Byte) (hint : Option Nat) : Nat :=
  match kind p with
  | .move => 8
  | .openCmd | .closeCmd | .stopCmd => 7
  | .setdir => 9
  | .qpos | .qstate | .qdir | .handshake => 8
  | .register => 15
  | .generic =>
    match hint with
    | some n => n
    | none => p.length + 2

/-- The frame of a payload: the payload and its CRC trailer (R90, R150). -/
def frameOf (p : List Byte) : List Byte := p ++ trailer (crc16 p)

/-- A payload BUILD refuses: its frame would exceed P_TX_MAX (R150). -/
def payloadTooLong (p : List Byte) : Bool := decide (Config.txMax - 2 < p.length)

/-- The lengths ENQUEUE refuses (R220): a payload too long, or an expected length outside 1..P_RX_MAX. -/
def badLengths (p : List Byte) (n : Nat) : Bool :=
  payloadTooLong p || decide (n = 0) || decide (Config.rxMax < n)

/-- What MK_GENERIC refuses (R164): bad lengths, or a table payload with another length than its row's. -/
def badGeneric (p : List Byte) (n : Nat) : Bool :=
  badLengths p n || (decide (kind p ≠ .generic) && decide (n ≠ expLenOf p none))

/-- The payload `[0x55, a0, a1, group, code, args...]` (R90). -/
def payloadOf (a0 a1 group code : Byte) (args : List Byte) : List Byte :=
  Config.sync :: a0 :: a1 :: group :: code :: args

/-- The common form of every constructor (R153): the expected length is the table's. -/
def requestOf (owner : SessionId) (payload : List Byte) (target : ChannelTag) : PendingRequest :=
  { owner := owner, payload := payload, expLen := expLenOf payload none, target := target, seq := none }

/-- The request of MK_MOVE (R154). -/
def moveRequest (owner : SessionId) (a0 a1 p : Byte) : PendingRequest :=
  requestOf owner (payloadOf a0 a1 0x03#8 0x04#8 [p]) .control

/-- The request of MK_OPEN (R155). -/
def openRequest (owner : SessionId) (a0 a1 : Byte) : PendingRequest :=
  requestOf owner (payloadOf a0 a1 0x03#8 0x01#8 []) .control

/-- The request of MK_CLOSE (R156). -/
def closeRequest (owner : SessionId) (a0 a1 : Byte) : PendingRequest :=
  requestOf owner (payloadOf a0 a1 0x03#8 0x02#8 []) .control

/-- The request of MK_STOP (R157). -/
def stopRequest (owner : SessionId) (a0 a1 : Byte) : PendingRequest :=
  requestOf owner (payloadOf a0 a1 0x03#8 0x03#8 []) .control

/-- The request of MK_SETDIR (R158). -/
def setdirRequest (owner : SessionId) (a0 a1 d : Byte) : PendingRequest :=
  requestOf owner (payloadOf a0 a1 0x02#8 0x03#8 [0x01#8, d]) .direction

/-- The request of MK_QPOS (R159). -/
def qposRequest (owner : SessionId) (a0 a1 : Byte) : PendingRequest :=
  requestOf owner (payloadOf a0 a1 0x01#8 0x02#8 [0x01#8]) .position

/-- The request of MK_QSTATE (R160). -/
def qstateRequest (owner : SessionId) (a0 a1 : Byte) : PendingRequest :=
  requestOf owner (payloadOf a0 a1 0x01#8 0x05#8 [0x01#8]) .state

/-- The request of MK_QDIR (R161). -/
def qdirRequest (owner : SessionId) (a0 a1 : Byte) : PendingRequest :=
  requestOf owner (payloadOf a0 a1 0x01#8 0x03#8 [0x01#8]) .direction

/-- The request of MK_HANDSHAKE (R162). -/
def handshakeRequest (owner : SessionId) (a0 a1 : Byte) : PendingRequest :=
  requestOf owner (payloadOf a0 a1 0x01#8 0xFE#8 [0x01#8]) .version

/-- The request of MK_REGISTER (R163): the address field is 0x00, 0x00. -/
def registerRequest (owner : SessionId) (n0 n1 : Byte) : PendingRequest :=
  requestOf owner (payloadOf 0x00#8 0x00#8 0x02#8 0x00#8 [0x02#8, n0, n1]) .programming

/-- The request of MK_GENERIC (R164): payload, length and target are the caller's. -/
def genericRequest (owner : SessionId) (p : List Byte) (n : Nat) (target : ChannelTag) : PendingRequest :=
  { owner := owner, payload := p, expLen := n, target := target, seq := none }

end Sys2Proof.Machine
end

