-- ==== Sys2Proof/WellFormed.lean ====
section
/-! DEFINITION. Which terms of Instr an encoding stands for: the checks of Instr.wellFormed. Natural operands and
the lengths of byte lists fit the model's four operand bytes (log 3); a GENERIC payload is no table row's and fits a frame (R96, R98). -/

namespace Sys2Proof

/-- A natural operand of four bytes (log 3). -/
def natOk (n : Nat) : Bool := decide (n < 4294967296)

/-- A byte list whose length is a natural operand (log 3). -/
def bytesOk (bs : List Byte) : Bool := natOk bs.length

/-- A SessionId whose reference is such a byte list (log 3). -/
def sessionOk (o : SessionId) : Bool := bytesOk o.ref

/-- An optional natural operand. -/
def optNatOk : Option Nat → Bool
  | none => true
  | some n => natOk n

/-- A PendingRequest operand. -/
def requestOk (r : PendingRequest) : Bool :=
  sessionOk r.owner && bytesOk r.payload && natOk r.expLen && optNatOk r.seq

/-- GENERIC is "any byte sequence of 0..253 bytes matching no row above" (R96). -/
def genericOk (p : List Byte) : Bool :=
  decide (Machine.kind p = .generic) && !Machine.payloadTooLong p

/-- The well-formed instructions: those that have a transaction. -/
def Instr.wellFormed : Instr → Bool
  | .move _ _ _ => true
  | .openCmd _ _ => true
  | .closeCmd _ _ => true
  | .stopCmd _ _ => true
  | .setdir _ _ _ => true
  | .qpos _ _ => true
  | .qstate _ _ => true
  | .qdir _ _ => true
  | .handshake _ _ => true
  | .register _ _ => true
  | .generic p _ _ => genericOk p
  | .crcInit => true
  | .crcByte _ => true
  | .crcRead => true
  | .checksum bs => bytesOk bs
  | .build p => bytesOk p
  | .expLen p hint => bytesOk p && optNatOk hint
  | .mkMove o _ _ _ => sessionOk o
  | .mkOpen o _ _ => sessionOk o
  | .mkClose o _ _ => sessionOk o
  | .mkStop o _ _ => sessionOk o
  | .mkSetdir o _ _ _ => sessionOk o
  | .mkQpos o _ _ => sessionOk o
  | .mkQstate o _ _ => sessionOk o
  | .mkQdir o _ _ => sessionOk o
  | .mkHandshake o _ _ => sessionOk o
  | .mkRegister o _ _ => sessionOk o
  | .mkGeneric o p n _ => sessionOk o && bytesOk p && natOk n
  | .enqueue r => requestOk r
  | .send o p n _ => sessionOk o && bytesOk p && natOk n
  | .dispose => true
  | .dFetch => true
  | .dSleep => true
  | .dWake => true
  | .dAttempt => true
  | .dRetry => true
  | .dDeliver => true
  | .dStop => true
  | .vBase buf c n => bytesOk buf && natOk c && natOk n
  | .vCrc buf c => bytesOk buf && natOk c
  | .vAddr r buf => requestOk r && bytesOk buf
  | .vEcho r buf => requestOk r && bytesOk buf
  | .vRegack r buf => requestOk r && bytesOk buf
  | .vSuccess r buf c => requestOk r && bytesOk buf && natOk c
  | .decPos r buf c => requestOk r && bytesOk buf && natOk c
  | .decState r buf c => requestOk r && bytesOk buf && natOk c
  | .decDir r buf c => requestOk r && bytesOk buf && natOk c
  | .decVersion r buf c => requestOk r && bytesOk buf && natOk c
  | .decRegack r buf c => requestOk r && bytesOk buf && natOk c
  | .decode r buf c => requestOk r && bytesOk buf && natOk c
  | .connect => true
  | .disconnect _ => true
  | .exchange f n => bytesOk f && natOk n
  | .readStatus n => natOk n
  | .uartEncode bs => bytesOk bs

end Sys2Proof
end

