-- ==== Sys2Proof/Decode.lean ====
section
/-! DEFINITION. The decoder of both encoding spaces (30_encoding.md R96, R102, R104) and, after it, the encoder. The operand
bytes of an operation are the model's own (DESIGN CHOICE, log 3): a byte is itself; a natural number is four bytes, the low
byte first; a byte list is its length as a natural number and then its bytes; a SessionId is the byte list of its reference;
an optional number is 0, or 1 and the number; a ChannelTag is its code (R33); an optional ChannelTag is nothing at the end of
the bytes or 0, or 1 and the tag; a Bool is 0 or 1; a PendingRequest is its fields in the order of R32. -/

namespace Sys2Proof

/-! ## Operand bytes read -/

/-- One operand byte. -/
def getByte : List Byte → Except DecodeError (Byte × List Byte)
  | [] => .error .truncated
  | b :: rest => .ok (b, rest)

/-- A natural operand: four bytes, the low byte first. -/
def getNat : List Byte → Except DecodeError (Nat × List Byte)
  | b0 :: b1 :: b2 :: b3 :: rest =>
    .ok (b0.toNat + 256 * b1.toNat + 65536 * b2.toNat + 16777216 * b3.toNat, rest)
  | _ => .error .truncated

/-- A byte-list operand: its length, then its bytes. -/
def getBytes (bs : List Byte) : Except DecodeError (List Byte × List Byte) :=
  match getNat bs with
  | .error e => .error e
  | .ok (n, rest) => if n ≤ rest.length then .ok (rest.take n, rest.drop n) else .error .truncated

/-- A SessionId operand: its reference. -/
def getSession (bs : List Byte) : Except DecodeError (SessionId × List Byte) :=
  match getBytes bs with
  | .error e => .error e
  | .ok (ref, rest) => .ok (⟨ref⟩, rest)

/-- An optional natural operand. -/
def getOptNat : List Byte → Except DecodeError (Option Nat × List Byte)
  | [] => .error .truncated
  | b :: rest =>
    if b = 0#8 then .ok (none, rest)
    else if b = 1#8 then
      match getNat rest with
      | .error e => .error e
      | .ok (n, rest') => .ok (some n, rest')
    else .error (.badOption b)

/-- The code of a ChannelTag (R33). -/
def tagCode : ChannelTag → Byte
  | .position => 0
  | .state => 1
  | .direction => 2
  | .version => 3
  | .programming => 4
  | .control => 5
  | .other => 6

/-- The ChannelTag of a code; a code above 6 is none (93_implementation_defined.md section 2). -/
def tagOfCode (b : Byte) : Option ChannelTag :=
  if b = 0#8 then some .position
  else if b = 1#8 then some .state
  else if b = 2#8 then some .direction
  else if b = 3#8 then some .version
  else if b = 4#8 then some .programming
  else if b = 5#8 then some .control
  else if b = 6#8 then some .other
  else none

/-- A ChannelTag operand. -/
def getTag : List Byte → Except DecodeError (ChannelTag × List Byte)
  | [] => .error .truncated
  | b :: rest =>
    match tagOfCode b with
    | some t => .ok (t, rest)
    | none => .error (.badTag b)

/-- An optional ChannelTag operand: the caller of SEND may give none (R222). -/
def getOptTag : List Byte → Except DecodeError (Option ChannelTag × List Byte)
  | [] => .ok (none, [])
  | b :: rest =>
    if b = 0#8 then .ok (none, rest)
    else if b = 1#8 then
      match getTag rest with
      | .error e => .error e
      | .ok (t, rest') => .ok (some t, rest')
    else .error (.badOption b)

/-- A Bool operand. -/
def getBool : List Byte → Except DecodeError (Bool × List Byte)
  | [] => .error .truncated
  | b :: rest =>
    if b = 0#8 then .ok (false, rest) else if b = 1#8 then .ok (true, rest) else .error (.badBool b)

/-- A PendingRequest operand, field by field in the order of R32. -/
def getRequest (bs : List Byte) : Except DecodeError (PendingRequest × List Byte) := do
  let (owner, bs) ← getSession bs
  let (payload, bs) ← getBytes bs
  let (n, bs) ← getNat bs
  let (target, bs) ← getTag bs
  let (seq, bs) ← getOptNat bs
  .ok (⟨owner, payload, n, target, seq⟩, bs)

/-! ## The decoder -/

/-- The operation space (R102): the instruction and the bytes after it, or why there is none. An op number that R102 does
not assign is named (R104). -/
def decodeOp : List Byte → Except DecodeError (Instr × List Byte)
  | [] => .error .noOp
  | op :: bs =>
    match op.toNat with
    | 0x01 => .ok (.crcInit, bs)
    | 0x02 => do
      let (b, bs) ← getByte bs
      .ok (.crcByte b, bs)
    | 0x03 => .ok (.crcRead, bs)
    | 0x04 => do
      let (s, bs) ← getBytes bs
      .ok (.checksum s, bs)
    | 0x10 => do
      let (p, bs) ← getBytes bs
      .ok (.build p, bs)
    | 0x11 => do
      let (p, bs) ← getBytes bs
      let (hint, bs) ← getOptNat bs
      .ok (.expLen p hint, bs)
    | 0x12 => do
      let (o, bs) ← getSession bs
      let (a0, bs) ← getByte bs
      let (a1, bs) ← getByte bs
      let (p, bs) ← getByte bs
      .ok (.mkMove o a0 a1 p, bs)
    | 0x13 => do
      let (o, bs) ← getSession bs
      let (a0, bs) ← getByte bs
      let (a1, bs) ← getByte bs
      .ok (.mkOpen o a0 a1, bs)
    | 0x14 => do
      let (o, bs) ← getSession bs
      let (a0, bs) ← getByte bs
      let (a1, bs) ← getByte bs
      .ok (.mkClose o a0 a1, bs)
    | 0x15 => do
      let (o, bs) ← getSession bs
      let (a0, bs) ← getByte bs
      let (a1, bs) ← getByte bs
      .ok (.mkStop o a0 a1, bs)
    | 0x16 => do
      let (o, bs) ← getSession bs
      let (a0, bs) ← getByte bs
      let (a1, bs) ← getByte bs
      let (d, bs) ← getByte bs
      .ok (.mkSetdir o a0 a1 d, bs)
    | 0x17 => do
      let (o, bs) ← getSession bs
      let (a0, bs) ← getByte bs
      let (a1, bs) ← getByte bs
      .ok (.mkQpos o a0 a1, bs)
    | 0x18 => do
      let (o, bs) ← getSession bs
      let (a0, bs) ← getByte bs
      let (a1, bs) ← getByte bs
      .ok (.mkQstate o a0 a1, bs)
    | 0x19 => do
      let (o, bs) ← getSession bs
      let (a0, bs) ← getByte bs
      let (a1, bs) ← getByte bs
      .ok (.mkQdir o a0 a1, bs)
    | 0x1A => do
      let (o, bs) ← getSession bs
      let (a0, bs) ← getByte bs
      let (a1, bs) ← getByte bs
      .ok (.mkHandshake o a0 a1, bs)
    | 0x1B => do
      let (o, bs) ← getSession bs
      let (n0, bs) ← getByte bs
      let (n1, bs) ← getByte bs
      .ok (.mkRegister o n0 n1, bs)
    | 0x1C => do
      let (o, bs) ← getSession bs
      let (p, bs) ← getBytes bs
      let (n, bs) ← getNat bs
      let (t, bs) ← getTag bs
      .ok (.mkGeneric o p n t, bs)
    | 0x20 => do
      let (r, bs) ← getRequest bs
      .ok (.enqueue r, bs)
    | 0x21 => do
      let (o, bs) ← getSession bs
      let (p, bs) ← getBytes bs
      let (n, bs) ← getNat bs
      let (t, bs) ← getOptTag bs
      .ok (.send o p n t, bs)
    | 0x22 => .ok (.dispose, bs)
    | 0x28 => .ok (.dFetch, bs)
    | 0x29 => .ok (.dSleep, bs)
    | 0x2A => .ok (.dWake, bs)
    | 0x2B => .ok (.dAttempt, bs)
    | 0x2C => .ok (.dRetry, bs)
    | 0x2D => .ok (.dDeliver, bs)
    | 0x2E => .ok (.dStop, bs)
    | 0x30 => do
      let (buf, bs) ← getBytes bs
      let (c, bs) ← getNat bs
      let (n, bs) ← getNat bs
      .ok (.vBase buf c n, bs)
    | 0x31 => do
      let (buf, bs) ← getBytes bs
      let (c, bs) ← getNat bs
      .ok (.vCrc buf c, bs)
    | 0x32 => do
      let (r, bs) ← getRequest bs
      let (buf, bs) ← getBytes bs
      .ok (.vAddr r buf, bs)
    | 0x33 => do
      let (r, bs) ← getRequest bs
      let (buf, bs) ← getBytes bs
      .ok (.vEcho r buf, bs)
    | 0x34 => do
      let (r, bs) ← getRequest bs
      let (buf, bs) ← getBytes bs
      .ok (.vRegack r buf, bs)
    | 0x35 => do
      let (r, bs) ← getRequest bs
      let (buf, bs) ← getBytes bs
      let (c, bs) ← getNat bs
      .ok (.vSuccess r buf c, bs)
    | 0x38 => do
      let (r, bs) ← getRequest bs
      let (buf, bs) ← getBytes bs
      let (c, bs) ← getNat bs
      .ok (.decPos r buf c, bs)
    | 0x39 => do
      let (r, bs) ← getRequest bs
      let (buf, bs) ← getBytes bs
      let (c, bs) ← getNat bs
      .ok (.decState r buf c, bs)
    | 0x3A => do
      let (r, bs) ← getRequest bs
      let (buf, bs) ← getBytes bs
      let (c, bs) ← getNat bs
      .ok (.decDir r buf c, bs)
    | 0x3B => do
      let (r, bs) ← getRequest bs
      let (buf, bs) ← getBytes bs
      let (c, bs) ← getNat bs
      .ok (.decVersion r buf c, bs)
    | 0x3C => do
      let (r, bs) ← getRequest bs
      let (buf, bs) ← getBytes bs
      let (c, bs) ← getNat bs
      .ok (.decRegack r buf c, bs)
    | 0x3D => do
      let (r, bs) ← getRequest bs
      let (buf, bs) ← getBytes bs
      let (c, bs) ← getNat bs
      .ok (.decode r buf c, bs)
    | 0x40 => .ok (.connect, bs)
    | 0x41 => do
      let (q, bs) ← getBool bs
      .ok (.disconnect q, bs)
    | 0x42 => do
      let (f, bs) ← getBytes bs
      let (n, bs) ← getNat bs
      .ok (.exchange f n, bs)
    | 0x43 => do
      let (k, bs) ← getNat bs
      .ok (.readStatus k, bs)
    | 0x44 => do
      let (s, bs) ← getBytes bs
      .ok (.uartEncode s, bs)
    | _ => .error (.unassignedOp op)

/-- The wire space (R96): every payload is an instruction, of the kind R34 gives it. The expected length and the target
are a GENERIC payload's only. -/
def decodeWire (p : List Byte) (n : Nat) (t : ChannelTag) : Instr :=
  match Machine.kind p, p with
  | .move, [_, a0, a1, _, _, x] => .move a0 a1 x
  | .openCmd, [_, a0, a1, _, _] => .openCmd a0 a1
  | .closeCmd, [_, a0, a1, _, _] => .closeCmd a0 a1
  | .stopCmd, [_, a0, a1, _, _] => .stopCmd a0 a1
  | .setdir, [_, a0, a1, _, _, _, d] => .setdir a0 a1 d
  | .qpos, [_, a0, a1, _, _, _] => .qpos a0 a1
  | .qstate, [_, a0, a1, _, _, _] => .qstate a0 a1
  | .qdir, [_, a0, a1, _, _, _] => .qdir a0 a1
  | .handshake, [_, a0, a1, _, _, _] => .handshake a0 a1
  | .register, [_, _, _, _, _, _, n0, n1] => .register n0 n1
  | _, _ => .generic p n t

/-- The instruction a transaction stands for. Bytes after an operation's operands are not read. -/
def decode : Transaction → Except DecodeError Instr
  | .op bytes =>
    match decodeOp bytes with
    | .ok (i, _) => .ok i
    | .error e => .error e
  | .wire p n t => .ok (decodeWire p n t)

/-! ## The encoder -/

/-- A natural operand as four bytes, the low byte first. -/
def putNat (n : Nat) : List Byte :=
  [BitVec.ofNat 8 n, BitVec.ofNat 8 (n / 256), BitVec.ofNat 8 (n / 65536), BitVec.ofNat 8 (n / 16777216)]

/-- A byte-list operand. -/
def putBytes (bs : List Byte) : List Byte := putNat bs.length ++ bs

/-- A SessionId operand. -/
def putSession (o : SessionId) : List Byte := putBytes o.ref

/-- An optional natural operand. -/
def putOptNat : Option Nat → List Byte
  | none => [0#8]
  | some n => 1#8 :: putNat n

/-- A ChannelTag operand. -/
def putTag (t : ChannelTag) : List Byte := [tagCode t]

/-- An optional ChannelTag operand. -/
def putOptTag : Option ChannelTag → List Byte
  | none => [0#8]
  | some t => 1#8 :: putTag t

/-- A Bool operand. -/
def putBool (b : Bool) : List Byte := [if b then 1#8 else 0#8]

/-- A byte operand. -/
def putByte (b : Byte) : List Byte := [b]

/-- A PendingRequest operand. -/
def putRequest (r : PendingRequest) : List Byte :=
  putSession r.owner ++ (putBytes r.payload ++ (putNat r.expLen ++ (putTag r.target ++ putOptNat r.seq)))

/-- The op number of R102. A wire command is issued by its constructor (R106), whose number stands for it. -/
def opNumber : Instr → Byte
  | .move _ _ _ => 0x12#8
  | .openCmd _ _ => 0x13#8
  | .closeCmd _ _ => 0x14#8
  | .stopCmd _ _ => 0x15#8
  | .setdir _ _ _ => 0x16#8
  | .qpos _ _ => 0x17#8
  | .qstate _ _ => 0x18#8
  | .qdir _ _ => 0x19#8
  | .handshake _ _ => 0x1A#8
  | .register _ _ => 0x1B#8
  | .generic _ _ _ => 0x1C#8
  | .crcInit => 0x01#8
  | .crcByte _ => 0x02#8
  | .crcRead => 0x03#8
  | .checksum _ => 0x04#8
  | .build _ => 0x10#8
  | .expLen _ _ => 0x11#8
  | .mkMove _ _ _ _ => 0x12#8
  | .mkOpen _ _ _ => 0x13#8
  | .mkClose _ _ _ => 0x14#8
  | .mkStop _ _ _ => 0x15#8
  | .mkSetdir _ _ _ _ => 0x16#8
  | .mkQpos _ _ _ => 0x17#8
  | .mkQstate _ _ _ => 0x18#8
  | .mkQdir _ _ _ => 0x19#8
  | .mkHandshake _ _ _ => 0x1A#8
  | .mkRegister _ _ _ => 0x1B#8
  | .mkGeneric _ _ _ _ => 0x1C#8
  | .enqueue _ => 0x20#8
  | .send _ _ _ _ => 0x21#8
  | .dispose => 0x22#8
  | .dFetch => 0x28#8
  | .dSleep => 0x29#8
  | .dWake => 0x2A#8
  | .dAttempt => 0x2B#8
  | .dRetry => 0x2C#8
  | .dDeliver => 0x2D#8
  | .dStop => 0x2E#8
  | .vBase _ _ _ => 0x30#8
  | .vCrc _ _ => 0x31#8
  | .vAddr _ _ => 0x32#8
  | .vEcho _ _ => 0x33#8
  | .vRegack _ _ => 0x34#8
  | .vSuccess _ _ _ => 0x35#8
  | .decPos _ _ _ => 0x38#8
  | .decState _ _ _ => 0x39#8
  | .decDir _ _ _ => 0x3A#8
  | .decVersion _ _ _ => 0x3B#8
  | .decRegack _ _ _ => 0x3C#8
  | .decode _ _ _ => 0x3D#8
  | .connect => 0x40#8
  | .disconnect _ => 0x41#8
  | .exchange _ _ => 0x42#8
  | .readStatus _ => 0x43#8
  | .uartEncode _ => 0x44#8

/-- The operand bytes of an operation, in the order of R102; a wire command has none. -/
def operandBytes : Instr → List Byte
  | .move _ _ _ => []
  | .openCmd _ _ => []
  | .closeCmd _ _ => []
  | .stopCmd _ _ => []
  | .setdir _ _ _ => []
  | .qpos _ _ => []
  | .qstate _ _ => []
  | .qdir _ _ => []
  | .handshake _ _ => []
  | .register _ _ => []
  | .generic _ _ _ => []
  | .crcInit => []
  | .crcByte b => putByte b
  | .crcRead => []
  | .checksum s => putBytes s
  | .build p => putBytes p
  | .expLen p hint => putBytes p ++ (putOptNat hint)
  | .mkMove o a0 a1 p => putSession o ++ (putByte a0 ++ (putByte a1 ++ (putByte p)))
  | .mkOpen o a0 a1 => putSession o ++ (putByte a0 ++ (putByte a1))
  | .mkClose o a0 a1 => putSession o ++ (putByte a0 ++ (putByte a1))
  | .mkStop o a0 a1 => putSession o ++ (putByte a0 ++ (putByte a1))
  | .mkSetdir o a0 a1 d => putSession o ++ (putByte a0 ++ (putByte a1 ++ (putByte d)))
  | .mkQpos o a0 a1 => putSession o ++ (putByte a0 ++ (putByte a1))
  | .mkQstate o a0 a1 => putSession o ++ (putByte a0 ++ (putByte a1))
  | .mkQdir o a0 a1 => putSession o ++ (putByte a0 ++ (putByte a1))
  | .mkHandshake o a0 a1 => putSession o ++ (putByte a0 ++ (putByte a1))
  | .mkRegister o n0 n1 => putSession o ++ (putByte n0 ++ (putByte n1))
  | .mkGeneric o p n t => putSession o ++ (putBytes p ++ (putNat n ++ (putTag t)))
  | .enqueue r => putRequest r
  | .send o p n t => putSession o ++ (putBytes p ++ (putNat n ++ (putOptTag t)))
  | .dispose => []
  | .dFetch => []
  | .dSleep => []
  | .dWake => []
  | .dAttempt => []
  | .dRetry => []
  | .dDeliver => []
  | .dStop => []
  | .vBase buf c n => putBytes buf ++ (putNat c ++ (putNat n))
  | .vCrc buf c => putBytes buf ++ (putNat c)
  | .vAddr r buf => putRequest r ++ (putBytes buf)
  | .vEcho r buf => putRequest r ++ (putBytes buf)
  | .vRegack r buf => putRequest r ++ (putBytes buf)
  | .vSuccess r buf c => putRequest r ++ (putBytes buf ++ (putNat c))
  | .decPos r buf c => putRequest r ++ (putBytes buf ++ (putNat c))
  | .decState r buf c => putRequest r ++ (putBytes buf ++ (putNat c))
  | .decDir r buf c => putRequest r ++ (putBytes buf ++ (putNat c))
  | .decVersion r buf c => putRequest r ++ (putBytes buf ++ (putNat c))
  | .decRegack r buf c => putRequest r ++ (putBytes buf ++ (putNat c))
  | .decode r buf c => putRequest r ++ (putBytes buf ++ (putNat c))
  | .connect => []
  | .disconnect q => putBool q
  | .exchange f n => putBytes f ++ (putNat n)
  | .readStatus k => putNat k
  | .uartEncode s => putBytes s

/-- The transaction of a well-formed instruction: the payload of R96 for a wire command, with its row's response length and
default target, and the op number with its operands (R102) for an operation. -/
def encode (i : Instr) : Transaction :=
  match i with
  | .move a0 a1 p => .wire [0x55#8, a0, a1, 0x03#8, 0x04#8, p] 8 .control
  | .openCmd a0 a1 => .wire [0x55#8, a0, a1, 0x03#8, 0x01#8] 7 .control
  | .closeCmd a0 a1 => .wire [0x55#8, a0, a1, 0x03#8, 0x02#8] 7 .control
  | .stopCmd a0 a1 => .wire [0x55#8, a0, a1, 0x03#8, 0x03#8] 7 .control
  | .setdir a0 a1 d => .wire [0x55#8, a0, a1, 0x02#8, 0x03#8, 0x01#8, d] 9 .direction
  | .qpos a0 a1 => .wire [0x55#8, a0, a1, 0x01#8, 0x02#8, 0x01#8] 8 .position
  | .qstate a0 a1 => .wire [0x55#8, a0, a1, 0x01#8, 0x05#8, 0x01#8] 8 .state
  | .qdir a0 a1 => .wire [0x55#8, a0, a1, 0x01#8, 0x03#8, 0x01#8] 8 .direction
  | .handshake a0 a1 => .wire [0x55#8, a0, a1, 0x01#8, 0xFE#8, 0x01#8] 8 .version
  | .register n0 n1 => .wire [0x55#8, 0x00#8, 0x00#8, 0x02#8, 0x00#8, 0x02#8, n0, n1] 15 .programming
  | .generic p n t => .wire p n t
  | .crcInit => .op (opNumber (.crcInit) :: operandBytes (.crcInit))
  | .crcByte b => .op (opNumber (.crcByte b) :: operandBytes (.crcByte b))
  | .crcRead => .op (opNumber (.crcRead) :: operandBytes (.crcRead))
  | .checksum s => .op (opNumber (.checksum s) :: operandBytes (.checksum s))
  | .build p => .op (opNumber (.build p) :: operandBytes (.build p))
  | .expLen p hint => .op (opNumber (.expLen p hint) :: operandBytes (.expLen p hint))
  | .mkMove o a0 a1 p => .op (opNumber (.mkMove o a0 a1 p) :: operandBytes (.mkMove o a0 a1 p))
  | .mkOpen o a0 a1 => .op (opNumber (.mkOpen o a0 a1) :: operandBytes (.mkOpen o a0 a1))
  | .mkClose o a0 a1 => .op (opNumber (.mkClose o a0 a1) :: operandBytes (.mkClose o a0 a1))
  | .mkStop o a0 a1 => .op (opNumber (.mkStop o a0 a1) :: operandBytes (.mkStop o a0 a1))
  | .mkSetdir o a0 a1 d => .op (opNumber (.mkSetdir o a0 a1 d) :: operandBytes (.mkSetdir o a0 a1 d))
  | .mkQpos o a0 a1 => .op (opNumber (.mkQpos o a0 a1) :: operandBytes (.mkQpos o a0 a1))
  | .mkQstate o a0 a1 => .op (opNumber (.mkQstate o a0 a1) :: operandBytes (.mkQstate o a0 a1))
  | .mkQdir o a0 a1 => .op (opNumber (.mkQdir o a0 a1) :: operandBytes (.mkQdir o a0 a1))
  | .mkHandshake o a0 a1 => .op (opNumber (.mkHandshake o a0 a1) :: operandBytes (.mkHandshake o a0 a1))
  | .mkRegister o n0 n1 => .op (opNumber (.mkRegister o n0 n1) :: operandBytes (.mkRegister o n0 n1))
  | .mkGeneric o p n t => .op (opNumber (.mkGeneric o p n t) :: operandBytes (.mkGeneric o p n t))
  | .enqueue r => .op (opNumber (.enqueue r) :: operandBytes (.enqueue r))
  | .send o p n t => .op (opNumber (.send o p n t) :: operandBytes (.send o p n t))
  | .dispose => .op (opNumber (.dispose) :: operandBytes (.dispose))
  | .dFetch => .op (opNumber (.dFetch) :: operandBytes (.dFetch))
  | .dSleep => .op (opNumber (.dSleep) :: operandBytes (.dSleep))
  | .dWake => .op (opNumber (.dWake) :: operandBytes (.dWake))
  | .dAttempt => .op (opNumber (.dAttempt) :: operandBytes (.dAttempt))
  | .dRetry => .op (opNumber (.dRetry) :: operandBytes (.dRetry))
  | .dDeliver => .op (opNumber (.dDeliver) :: operandBytes (.dDeliver))
  | .dStop => .op (opNumber (.dStop) :: operandBytes (.dStop))
  | .vBase buf c n => .op (opNumber (.vBase buf c n) :: operandBytes (.vBase buf c n))
  | .vCrc buf c => .op (opNumber (.vCrc buf c) :: operandBytes (.vCrc buf c))
  | .vAddr r buf => .op (opNumber (.vAddr r buf) :: operandBytes (.vAddr r buf))
  | .vEcho r buf => .op (opNumber (.vEcho r buf) :: operandBytes (.vEcho r buf))
  | .vRegack r buf => .op (opNumber (.vRegack r buf) :: operandBytes (.vRegack r buf))
  | .vSuccess r buf c => .op (opNumber (.vSuccess r buf c) :: operandBytes (.vSuccess r buf c))
  | .decPos r buf c => .op (opNumber (.decPos r buf c) :: operandBytes (.decPos r buf c))
  | .decState r buf c => .op (opNumber (.decState r buf c) :: operandBytes (.decState r buf c))
  | .decDir r buf c => .op (opNumber (.decDir r buf c) :: operandBytes (.decDir r buf c))
  | .decVersion r buf c => .op (opNumber (.decVersion r buf c) :: operandBytes (.decVersion r buf c))
  | .decRegack r buf c => .op (opNumber (.decRegack r buf c) :: operandBytes (.decRegack r buf c))
  | .decode r buf c => .op (opNumber (.decode r buf c) :: operandBytes (.decode r buf c))
  | .connect => .op (opNumber (.connect) :: operandBytes (.connect))
  | .disconnect q => .op (opNumber (.disconnect q) :: operandBytes (.disconnect q))
  | .exchange f n => .op (opNumber (.exchange f n) :: operandBytes (.exchange f n))
  | .readStatus k => .op (opNumber (.readStatus k) :: operandBytes (.readStatus k))
  | .uartEncode s => .op (opNumber (.uartEncode s) :: operandBytes (.uartEncode s))

/-! ## The opcode table's numbers -/

/-- `n` bytes of a number, the low byte first. -/
def bytesLow : Nat → Nat → List Byte
  | 0, _ => []
  | n + 1, w => BitVec.ofNat 8 w :: bytesLow n (w / 256)

/-- The transaction whose bits spec/opcode_table.json numbers as `w`, `nbits` of them. A row of 8 bits is an op number, and
every operand byte is 0; every other row is a wire payload. The table writes a wire row as one number with byte 0 the most
significant; a number that is a table command the other way round, byte 0 in bits 7..0, is read that way (log 4). -/
def tableTransaction (nbits w : Nat) : Transaction :=
  if nbits = 8 then .op (bytesLow 1 w ++ List.replicate 32 0#8)
  else
    let low := bytesLow (nbits / 8) w
    let high := low.reverse
    let p := if Machine.kind high = .generic ∧ Machine.kind low ≠ .generic then low else high
    .wire p (p.length + 2) .other

/-- The instruction the decoder reads from the bits `w` of a row of the opcode table. -/
def decodeTableWord (nbits w : Nat) : Option Instr :=
  match decode (tableTransaction nbits w) with
  | .ok i => some i
  | .error _ => none

end Sys2Proof
end

