-- ==== Sys2Proof/Machine/Operands.lean ====
section
/-! DEFINITION. How operations reach their operands: single bytes of a buffer (20_memory.md R61), zero buffers (R11), and
which agent may invoke which operation (30_encoding.md R102, R104; 60_exceptions.md R320). -/

namespace Sys2Proof.Machine

/-- MemRead of one byte (R12, R61): outside the buffer it faults. -/
def memRead (buf : List Byte) (i : Nat) : Except Fault Byte :=
  match buf[i]? with
  | some b => .ok b
  | none => .error .bufferRange

/-- `zeros(n)` (R11). -/
def zeros (n : Nat) : List Byte := List.replicate n 0#8

/-- The drained bytes as a buffer of `n` bytes: truncated, or padded with zeros (R270). -/
def fitBuffer (n : Nat) (avail : List Byte) : List Byte := avail.take n ++ zeros (n - min avail.length n)

/-- The "invoked by" column of R102. -/
inductive AgentClass where
  | host
  | producer
  | dispatcher
  | any
  deriving DecidableEq, Repr

/-- The class of agents that may invoke an instruction (R102, R320). A wire command is issued by a producer (R106). A
permanent DISCONNECT is D_STOP's ("host; D_STOP (permanent)", R102; log 17). -/
def invokedBy : Instr → AgentClass
  | .move _ _ _ | .openCmd _ _ | .closeCmd _ _ | .stopCmd _ _ | .setdir _ _ _ | .qpos _ _ | .qstate _ _ | .qdir _ _
  | .handshake _ _ | .register _ _ | .generic _ _ _ => .producer
  | .crcInit | .crcByte _ | .crcRead => .host
  | .checksum _ | .build _ | .expLen _ _ => .any
  | .mkMove _ _ _ _ | .mkOpen _ _ _ | .mkClose _ _ _ | .mkStop _ _ _ | .mkSetdir _ _ _ _ | .mkQpos _ _ _
  | .mkQstate _ _ _ | .mkQdir _ _ _ | .mkHandshake _ _ _ | .mkRegister _ _ _ | .mkGeneric _ _ _ _ => .producer
  | .enqueue _ | .send _ _ _ _ => .producer
  | .dispose => .host
  | .dFetch | .dSleep | .dWake | .dAttempt | .dRetry | .dDeliver | .dStop => .dispatcher
  | .vBase _ _ _ | .vCrc _ _ | .vAddr _ _ | .vEcho _ _ | .vRegack _ _ | .vSuccess _ _ _ => .any
  | .decPos _ _ _ | .decState _ _ _ | .decDir _ _ _ | .decVersion _ _ _ | .decRegack _ _ _ => .any
  | .decode _ _ _ => .dispatcher
  | .connect | .disconnect false => .host
  | .disconnect true => .dispatcher
  | .exchange _ _ => .dispatcher
  | .readStatus _ | .uartEncode _ => .any

/-- Whether an agent is of a class. -/
def AgentClass.admits : AgentClass → Agent → Bool
  | .host, .host => true
  | .producer, .producer _ => true
  | .dispatcher, .dispatcher => true
  | .any, _ => true
  | _, _ => false

/-- Whether an agent may invoke an instruction (R104). -/
def permitted (i : Instr) (a : Agent) : Bool := (invokedBy i).admits a

/-- The session of a producer, the owner of the wire commands it gives (R237, log 6). -/
def sessionOf : Agent → SessionId
  | .producer s => s
  | .host => ⟨[]⟩
  | .dispatcher => ⟨[]⟩

end Sys2Proof.Machine
end

