-- ==== Sys2Proof/Machine/Parse.lean ====
section
/-! DEFINITION. The validators and decoders of the frame parser as functions of a request, a buffer and its received count
(43_frame_parser.md R180 to R200). -/

namespace Sys2Proof.Machine

/-- V_CRC (R181). -/
def vCrc (buf : List Byte) (count : Nat) : Bool :=
  decide (count = buf.length) && decide (3 ≤ buf.length) && decide (crc16 buf = 0#16)

/-- Why the base validity of R180 fails, in the order of R191; none when it holds. -/
def baseReason (ps : Params) (buf : List Byte) (count n : Nat) : Option DiscardReason :=
  if ¬ (1 ≤ n ∧ buf.length = n ∧ count = n) then some .short
  else if buf.head? ≠ some Config.sync then some .noSync
  else if ps.checkRxCrc ∧ vCrc buf count = false then some .badCrc
  else none

/-- V_BASE (R180). -/
def vBase (ps : Params) (buf : List Byte) (count n : Nat) : Bool :=
  decide (1 ≤ n) && decide (buf.length = n) && decide (count = n) && decide (buf.head? = some Config.sync) &&
    (!ps.checkRxCrc || vCrc buf count)

/-- V_ADDR (R182). -/
def vAddr (r : PendingRequest) (buf : List Byte) : Bool :=
  if isAddressedKind (kind r.payload) then
    decide (3 ≤ buf.length) && decide (buf[1]? = r.payload[1]?) && decide (buf[2]? = r.payload[2]?)
  else true

/-- V_ECHO (R183). -/
def vEcho (r : PendingRequest) (buf : List Byte) : Bool :=
  if isEchoKind (kind r.payload) then
    decide (r.payload.length ≤ buf.length) && decide (buf.take r.payload.length = r.payload)
  else true

/-- V_REGACK (R184). -/
def vRegack (r : PendingRequest) (buf : List Byte) : Bool :=
  if kind r.payload = .register then
    decide (10 ≤ buf.length) && decide (buf[8]? = r.payload[6]?) && decide (buf[9]? = r.payload[7]?)
  else true

/-- V_SUCCESS (R196). -/
def vSuccess (ps : Params) (r : PendingRequest) (buf : List Byte) (count : Nat) : Bool :=
  vBase ps buf count r.expLen && vAddr r buf && vEcho r buf && vRegack r buf

/-- Why the checks of an answer from a device address fail: the base, then the address (R185 to R188). -/
def addressedReason (ps : Params) (r : PendingRequest) (buf : List Byte) (count : Nat) : Option DiscardReason :=
  match baseReason ps buf count r.expLen with
  | some d => some d
  | none => if vAddr r buf then none else some .addrMismatch

/-- The value byte of a VALUE8 answer, index 5 (R92, R95), once the checks hold. -/
def valueAnswer (ps : Params) (r : PendingRequest) (buf : List Byte) (count : Nat) (value : Byte → Decoded) :
    Except Fault Decoded :=
  match addressedReason ps r buf count with
  | some d => .ok (.discard d)
  | none =>
    match memRead buf 5 with
    | .ok v => .ok (value v)
    | .error f => .error f

/-- The position byte (R185): the sentinel, the range, then the policy. -/
def positionValue (ps : Params) (v : Byte) : Decoded :=
  if v = 0xFF#8 then .discard .posUnset
  else if v.toNat ≤ 100 then .value (.position v)
  else
    match ps.posOor with
    | .reject => .discard .posOutOfRange
    | .clamp => .value (.position 100#8)
    | .pass => .value (.position v)

/-- The motion-state byte (R186). -/
def motionValue (v : Byte) : Decoded :=
  if v = 0#8 then .value (.motion .stop)
  else if v = 1#8 then .value (.motion .opening)
  else if v = 2#8 then .value (.motion .closing)
  else if v = 3#8 then .value (.motion .programming)
  else .discard .unrecognizedValue

/-- The direction byte (R187). -/
def directionValue (v : Byte) : Decoded :=
  if v = 0#8 then .value (.direction .direct)
  else if v = 1#8 then .value (.direction .reverse)
  else .discard .unrecognizedValue

/-- The version byte (R188): every value is a version. -/
def versionValue (v : Byte) : Decoded := .value (.version v)

/-- DEC_POS of a QPOS request (R185). -/
def decPos (ps : Params) (r : PendingRequest) (buf : List Byte) (count : Nat) : Except Fault Decoded :=
  valueAnswer ps r buf count (positionValue ps)

/-- DEC_STATE of a QSTATE request (R186). -/
def decState (ps : Params) (r : PendingRequest) (buf : List Byte) (count : Nat) : Except Fault Decoded :=
  valueAnswer ps r buf count motionValue

/-- DEC_DIR of a QDIR request (R187). -/
def decDir (ps : Params) (r : PendingRequest) (buf : List Byte) (count : Nat) : Except Fault Decoded :=
  valueAnswer ps r buf count directionValue

/-- DEC_VERSION of a HANDSHAKE request (R188). -/
def decVersion (ps : Params) (r : PendingRequest) (buf : List Byte) (count : Nat) : Except Fault Decoded :=
  valueAnswer ps r buf count versionValue

/-- DEC_REGACK of a REGISTER request (R189): no address filter; the value is the address the request claims. -/
def decRegack (ps : Params) (r : PendingRequest) (buf : List Byte) (count : Nat) : Except Fault Decoded :=
  match baseReason ps buf count r.expLen with
  | some d => .ok (.discard d)
  | none =>
    if vRegack r buf then
      match memRead r.payload 6, memRead r.payload 7 with
      | .ok n0, .ok n1 => .ok (.value (.programmingAck n0 n1))
      | _, _ => .error .bufferRange
    else .ok (.discard .noRegAck)

/-- The answer of an echo kind (R200): nothing on success, else the first failing reason (R191). -/
def echoAnswer (ps : Params) (r : PendingRequest) (buf : List Byte) (count : Nat) : Decoded :=
  match addressedReason ps r buf count with
  | some d => .discard d
  | none => if vEcho r buf then .noEvent else .discard .noEcho

/-- What DECODE finds in an answer (R200), by the request's kind. -/
def decodeAnswer (ps : Params) (r : PendingRequest) (buf : List Byte) (count : Nat) : Except Fault Decoded :=
  match kind r.payload with
  | .qpos => decPos ps r buf count
  | .qstate => decState ps r buf count
  | .qdir => decDir ps r buf count
  | .handshake => decVersion ps r buf count
  | .register => decRegack ps r buf count
  | .move | .openCmd | .closeCmd | .stopCmd | .setdir => .ok (echoAnswer ps r buf count)
  | .generic => .ok .noEvent

/-- The event DECODE records (R200). -/
def decodeEvents (r : PendingRequest) (d : Decoded) : List Event :=
  match d with
  | .value v => [.emitted r.owner r.target v]
  | .discard reason => [.discarded r.owner r.seq reason]
  | .noEvent => []

end Sys2Proof.Machine
end

