-- ==== Sys2Proof/Machine/Ops.lean ====
section
/-! DEFINITION. The shared operations of the meanings: events, causes (what the DPE has instead of exceptions, 60_exceptions.md
R300, R301, R309), results (00_scope.md R13), permission (R104), the queue (R220), route-back (R229),
the environment's draws (R12). -/

namespace Sys2Proof.Machine

/-- What a meaning answers. -/
abbrev Step := Host.Outcome State Fault Refusal

/-! ## Events and causes -/

/-- `emit` events in their order (R12, R44). -/
def State.emit (s : State) (es : List Event) : State := { s with hist := s.hist ++ es }

/-- The code of a cause (R300). -/
def Cause.code : Cause → Byte
  | .configEmptyPort => 1#8
  | .configUnresolvablePort => 2#8
  | .portInUse => 3#8
  | .ioErrorOpen => 4#8
  | .unsupportedParams => 5#8
  | .ioErrorExchange => 6#8
  | .commandFailure => 9#8
  | .dispatchFault => 10#8
  | .badArgument => 11#8
  | .disposed => 12#8
  | .badOpcode => 13#8

/-- `raise` (R12, R300): the entry in LOG, LAST_CAUSE and the Log event. It transfers control nowhere (R309). -/
def State.raise (s : State) (c : Cause) (seq : Option Nat) (info : List Byte) : State :=
  { s with
    log := s.log ++ [⟨c.code, seq, info⟩]
    lastCause := c.code
    hist := s.hist ++ [.logged c.code seq info] }

/-! ## Results -/

/-- The result of the step (R13, log 10). -/
def State.withResult (s : State) (r : OpResult) : State := { s with result := r }

/-- `ok(v)` (R13). -/
def reply (v : Reply) (s : State) : Step := .next (s.withResult (.ok v))

/-- `refused(cause)` (R13, R301): only the record of the cause changes. -/
def refuse (c : Cause) (info : List Byte) (s : State) : Step :=
  .next ((s.raise c none info).withResult (.refused c))

/-- `not enabled` (R13): the agent holds. -/
def notEnabled (s : State) : Step := .next (s.withResult .notEnabled)

/-- The operation goes on in a later step (R70). -/
def underWay (s : State) : Step := .next (s.withResult .underWay)

/-- The first check of every operation (R104, R307): an agent that R102 does not permit is refused with BAD_OPCODE. -/
def guarded (i : Instr) (s : State) (k : Step) : Step :=
  if permitted i s.agent then k else refuse .badOpcode [opNumber i] s

/-- The end of a decoder or of a validator that may read outside a buffer (R61). -/
def replyDecoded (d : Except Fault Decoded) (s : State) : Step :=
  match d with
  | .ok d => reply (.decoded d) s
  | .error f => .fault f

/-! ## The queue -/

/-- The request ENQUEUE stores: the operand with its sequence number (R220). -/
def numbered (r : PendingRequest) (n : Nat) : PendingRequest := { r with seq := some n }

/-- The state after an accepted ENQUEUE (R220): Q, ENQ_SEQ and the Enq event. -/
def State.enqueued (s : State) (r : PendingRequest) : State :=
  { s with
    queue := s.queue ++ [numbered r s.enqSeq]
    enqSeq := s.enqSeq + 1
    hist := s.hist ++ [.enq s.enqSeq r.owner r.payload r.expLen r.target] }

/-- ENQUEUE after the permission check, in the order of R307: DISPOSED, BAD_ARGUMENT, a full queue (R220, R221). -/
def enqueueRequest (r : PendingRequest) (s : State) : Step :=
  if s.disposed then refuse .disposed r.payload s
  else if badLengths r.payload r.expLen then refuse .badArgument r.payload s
  else if s.queueFull then notEnabled s
  else reply (.seq s.enqSeq) (s.enqueued r)

/-! ## Route-back -/

/-- The step of route-back (R229, R200): the Deliver event, then the event of the decoder, and the request is dropped. `v` is
what the operation returns of what the decoder found. -/
def routeBack (r : PendingRequest) (v : Decoded → Reply) (s : State) : Step :=
  match decodeAnswer s.params r s.rxb s.rxCount with
  | .ok d =>
    reply (v d)
      { s with
        cur := none
        attempt := 0
        dstate := .idle
        hist := s.hist ++
          (.deliver r.owner r.seq s.rxb s.rxCount (vSuccess s.params r s.rxb s.rxCount) :: decodeEvents r d) }
  | .error f => .fault f

/-! ## The environment's draws -/

/-- The draw of step X2 (R270): the next listed answer, or a free value (log 9). -/
def State.lineAnswer (s : State) : LineAnswer :=
  match s.lineIn with
  | a :: _ => a
  | [] => Config.freeLine s.draws

/-- The state after that draw. -/
def State.afterLine (s : State) : State :=
  match s.lineIn with
  | _ :: rest => { s with lineIn := rest }
  | [] => { s with draws := s.draws + 1 }

/-- The draws of step C2 (R266): the next listed answer, or a free value (log 9). -/
def State.portAnswer (s : State) : PortAnswer :=
  match s.portIn with
  | a :: _ => a
  | [] => Config.freePort s.draws

/-- The state after that draw. -/
def State.afterPort (s : State) : State :=
  match s.portIn with
  | _ :: rest => { s with portIn := rest }
  | [] => { s with draws := s.draws + 1 }

end Sys2Proof.Machine
end

