-- ==== Sys2Proof/Machine/Builder.lean ====
section
/-! DEFINITION. The meanings of the frame builder operations (42_frame_builder.md R150 to R164). -/

namespace Sys2Proof.Machine

/-- BUILD p (R150). -/
def execBuild (p : List Byte) (s : State) : Step :=
  guarded (.build p) s
    (if payloadTooLong p then refuse .badArgument p s else reply (.bytes (frameOf p)) s)

/-- EXP_LEN p, hint (R152). -/
def execExpLen (p : List Byte) (hint : Option Nat) (s : State) : Step :=
  guarded (.expLen p hint) s (reply (.nat (expLenOf p hint)) s)

/-- MK_MOVE (R154): P above 100 is refused. -/
def execMkMove (o : SessionId) (a0 a1 p : Byte) (s : State) : Step :=
  guarded (.mkMove o a0 a1 p) s
    (if 100 < p.toNat then refuse .badArgument [p] s else reply (.request (moveRequest o a0 a1 p)) s)

/-- MK_OPEN (R155). -/
def execMkOpen (o : SessionId) (a0 a1 : Byte) (s : State) : Step :=
  guarded (.mkOpen o a0 a1) s (reply (.request (openRequest o a0 a1)) s)

/-- MK_CLOSE (R156). -/
def execMkClose (o : SessionId) (a0 a1 : Byte) (s : State) : Step :=
  guarded (.mkClose o a0 a1) s (reply (.request (closeRequest o a0 a1)) s)

/-- MK_STOP (R157). -/
def execMkStop (o : SessionId) (a0 a1 : Byte) (s : State) : Step :=
  guarded (.mkStop o a0 a1) s (reply (.request (stopRequest o a0 a1)) s)

/-- MK_SETDIR (R158): d above 1 is refused. -/
def execMkSetdir (o : SessionId) (a0 a1 d : Byte) (s : State) : Step :=
  guarded (.mkSetdir o a0 a1 d) s
    (if 1 < d.toNat then refuse .badArgument [d] s else reply (.request (setdirRequest o a0 a1 d)) s)

/-- MK_QPOS (R159). -/
def execMkQpos (o : SessionId) (a0 a1 : Byte) (s : State) : Step :=
  guarded (.mkQpos o a0 a1) s (reply (.request (qposRequest o a0 a1)) s)

/-- MK_QSTATE (R160). -/
def execMkQstate (o : SessionId) (a0 a1 : Byte) (s : State) : Step :=
  guarded (.mkQstate o a0 a1) s (reply (.request (qstateRequest o a0 a1)) s)

/-- MK_QDIR (R161). -/
def execMkQdir (o : SessionId) (a0 a1 : Byte) (s : State) : Step :=
  guarded (.mkQdir o a0 a1) s (reply (.request (qdirRequest o a0 a1)) s)

/-- MK_HANDSHAKE (R162). -/
def execMkHandshake (o : SessionId) (a0 a1 : Byte) (s : State) : Step :=
  guarded (.mkHandshake o a0 a1) s (reply (.request (handshakeRequest o a0 a1)) s)

/-- MK_REGISTER (R163). -/
def execMkRegister (o : SessionId) (n0 n1 : Byte) (s : State) : Step :=
  guarded (.mkRegister o n0 n1) s (reply (.request (registerRequest o n0 n1)) s)

/-- MK_GENERIC (R164). -/
def execMkGeneric (o : SessionId) (p : List Byte) (n : Nat) (t : ChannelTag) (s : State) : Step :=
  guarded (.mkGeneric o p n t) s
    (if badGeneric p n then refuse .badArgument p s else reply (.request (genericRequest o p n t)) s)

end Sys2Proof.Machine
end

