-- ==== Sys2Proof/Machine/Checksum.lean ====
section
/-! DEFINITION. The meanings of the Checksum Codec operations (41_crc.md R134 to R137). -/

namespace Sys2Proof.Machine

/-- CRC_INIT (R134). -/
def execCrcInit (s : State) : Step :=
  guarded .crcInit s (reply .unit { s with crcAcc := Config.crcInit })

/-- CRC_BYTE b (R135). -/
def execCrcByte (b : Byte) (s : State) : Step :=
  guarded (.crcByte b) s (reply .unit { s with crcAcc := crcByte s.crcAcc b })

/-- CRC_READ (R136). -/
def execCrcRead (s : State) : Step :=
  guarded .crcRead s (reply (.word s.crcAcc) s)

/-- CHECKSUM bs (R137): a fresh accumulator; CRC_ACC is not touched (R22). -/
def execChecksum (bs : List Byte) (s : State) : Step :=
  guarded (.checksum bs) s
    (if Config.txMax < bs.length then refuse .badArgument bs s else reply (.word (crc16 bs)) s)

end Sys2Proof.Machine
end

