-- ==== Sys2Proof/Machine/Transport.lean ====
section
/-! DEFINITION. The steps of the serial transport (45_serializer.md R260, R264 to R273) and the retry decision that is part of
the final step of an attempt (44_queue_dispatcher.md R227). -/

namespace Sys2Proof.Machine

/-! ## Characters on the line -/

/-- `char(b)` (R260): start bit 0, eight data bits least significant first, stop bit 1. -/
def uartChar (b : Byte) : List Bool :=
  [false, b.getLsbD 0, b.getLsbD 1, b.getLsbD 2, b.getLsbD 3, b.getLsbD 4, b.getLsbD 5, b.getLsbD 6, b.getLsbD 7, true]

/-- UART_ENCODE of a byte sequence, first byte first (R260, R262). -/
def uartBits (bs : List Byte) : List Bool := bs.flatMap uartChar

/-! ## CONNECT and DISCONNECT -/

/-- Step C1 once it is enabled (R266). -/
def State.connectBegun (s : State) : State :=
  { s with
    tlock := .heldConnect
    xop := .connect
    busState := .connecting
    offlineReason := .none
    hist := s.hist ++ [.bus .connecting .none] }

/-- Step C2 when the port has opened (R266). -/
def State.connectOpened (s : State) : State :=
  { s with
    portOpen := true
    busState := .online
    hist := s.hist ++ [.bus .online .none]
    tlock := .free
    xop := .idle }

/-- Step C2 when it fails (R266): OFFLINE with the reason, whose code is the cause (R300). -/
def State.connectFailed (s : State) (reason : OfflineReason) (c : Cause) : State :=
  { ({ s with
        portOpen := false
        busState := .offline
        offlineReason := reason
        hist := s.hist ++ [.bus .offline reason] } : State).raise c none [] with
    tlock := .free
    xop := .idle }

/-- Step C2 of CONNECT (R266): the empty name, then resolution, then opening. -/
def connectEnd (s : State) : Step :=
  if s.portName = [] then reply (.bool false) (s.connectFailed .configEmptyPort .configEmptyPort)
  else
    match s.portAnswer with
    | .opened => reply (.bool true) s.afterPort.connectOpened
    | .unresolvable => reply (.bool false) (s.afterPort.connectFailed .configUnresolvablePort .configUnresolvablePort)
    | .inUse => reply (.bool false) (s.afterPort.connectFailed .portInUse .portInUse)
    | .ioError => reply (.bool false) (s.afterPort.connectFailed .ioErrorOpen .ioErrorOpen)
    | .unsupported => reply (.bool false) (s.afterPort.connectFailed .unsupportedParams .unsupportedParams)

/-- Step K1 of DISCONNECT once it is enabled (R268). -/
def State.disconnectBegun (s : State) : State := { s with tlock := .heldDisconnect, xop := .disconnect }

/-- What step K2 of DISCONNECT writes before it frees TLOCK (R268): a permanent one closes the port and no more (R269).
DESIGN CHOICE (log 23): the host's overwrites the reason of a failed CONNECT too, as R268 says and not R302. -/
def State.portClosed (s : State) (permanent : Bool) : State :=
  if permanent then { s with portOpen := false }
  else
    { s with
      portOpen := false
      busState := .offline
      offlineReason := .disconnected
      hist := s.hist ++ [.bus .offline .disconnected] }

/-- Step K2 of the host's DISCONNECT (R268). -/
def disconnectEnd (s : State) : Step := reply .unit { s.portClosed false with tlock := .free, xop := .idle }

/-! ## EXCHANGE -/

/-- Step X1 on a connected bus (R270): TXB is written and the frame sent. -/
def State.exchangeBegun (s : State) (frame : List Byte) (n : Nat) (attempt : Bool) : State :=
  { s with
    tlock := .heldExchange
    xop := .exchange n attempt
    txb := frame
    hist := s.hist ++ [.tx frame] }

/-- Step X1 on a bus that is not connected (R271), which is also the final step: TLOCK is taken and freed inside it. -/
def State.exchangeOffline (s : State) (n : Nat) : State :=
  { s with rxb := zeros n, rxCount := 0, hist := s.hist ++ [.rx (zeros n) 0] }

/-- The sequence number of CUR, which the causes of an exchange record (R300). -/
def State.curSeq (s : State) : Option Nat :=
  match s.cur with
  | some r => r.seq
  | none => none

/-- Step X2 of EXCHANGE for an answer of the environment (R270, R272, R273). -/
def State.exchangeAnswered (s : State) (n : Nat) (a : LineAnswer) : State :=
  match a with
  | .bytes avail =>
    { s with
      rxCount := min avail.length n
      rxb := fitBuffer n avail
      hist := s.hist ++ [.rx (fitBuffer n avail) (min avail.length n)]
      tlock := .free
      xop := .idle }
  | .ioFailure =>
    { (({ s with
          rxb := zeros n
          rxCount := 0
          portOpen := false
          busState := .offline
          offlineReason := .ioErrorExchange
          hist := s.hist ++ [.bus .offline .ioErrorExchange] } : State).raise .ioErrorExchange s.curSeq []).emit
        [.rx (zeros n) 0] with
      tlock := .free
      xop := .idle }
  | .fault =>
    { s with
      rxb := zeros n
      rxCount := 0
      hist := s.hist ++ [.rx (zeros n) 0]
      tlock := .free
      xop := .idle }

/-- The tag EXCHANGE returns for an answer (R270). -/
def outcomeOf : LineAnswer → ExchangeOutcome
  | .bytes _ => .bytes
  | .ioFailure => .ioFailure
  | .fault => .fault

/-- The rest of D_ATTEMPT after its exchange (R227): the count of attempts and where the dispatcher goes. -/
def State.attemptEnded (s : State) (r : PendingRequest) (o : ExchangeOutcome) : State :=
  if o = .fault then
    { s.raise .dispatchFault r.seq [] with attempt := s.attempt + 1, dstate := .deliver }
  else if vSuccess s.params r s.rxb s.rxCount then
    { s with attempt := s.attempt + 1, dstate := .deliver }
  else if s.params.maxAttempts ≤ s.attempt + 1 ∨ s.disposed then
    { s.raise .commandFailure r.seq [] with attempt := s.attempt + 1, dstate := .deliver }
  else
    { s with attempt := s.attempt + 1, dstate := .backoff }

/-- What an exchange of CUR answers: the outcome when it was invoked as EXCHANGE (R270), nothing as D_ATTEMPT (R102). -/
def exchangeReply (attempt : Bool) (o : ExchangeOutcome) : Reply := if attempt then .unit else .outcome o

/-- The first step of an exchange of CUR (R227, R270): step X1, or on a bus that is not connected the only step (R271), with
the retry decision. -/
def beginExchange (r : PendingRequest) (attempt : Bool) (s : State) : Step :=
  if s.tlock ≠ .free then notEnabled s
  else if s.connected then underWay (s.exchangeBegun (frameOf r.payload) r.expLen attempt)
  else reply (exchangeReply attempt .notOnline) ((s.exchangeOffline r.expLen).attemptEnded r .notOnline)

/-- Step X2 of an exchange of CUR, with the retry decision, which is part of it (R227, R270). No exchange is under way without
a CUR (Invariants). -/
def exchangeEnd (n : Nat) (attempt : Bool) (s : State) : Step :=
  let t := s.afterLine.exchangeAnswered n s.lineAnswer
  let o := outcomeOf s.lineAnswer
  match s.cur with
  | some r => reply (exchangeReply attempt o) (t.attemptEnded r o)
  | none => reply (exchangeReply attempt o) t

/-- The final step of the transport operation under way: C2, K2 or X2 (R70, R264). -/
def finishTransport (s : State) : Step :=
  match s.xop with
  | .idle => notEnabled s
  | .connect => connectEnd { s with agent := .host }
  | .disconnect => disconnectEnd { s with agent := .host }
  | .exchange n attempt => exchangeEnd n attempt { s with agent := .dispatcher }

end Sys2Proof.Machine
end

