-- ==== Sys2Proof/Machine/Dispatcher.lean ====
section
/-! DEFINITION. The meanings of the dispatcher's transitions (44_queue_dispatcher.md R224 to R231). A transition that its state
does not enable answers not enabled (R13; log 20). -/

namespace Sys2Proof.Machine

/-- D_FETCH (R224). -/
def execDfetch (s : State) : Step :=
  guarded .dFetch s
    (if s.dstate = .idle ∧ s.disposed = false then
      match s.queue with
      | r :: rest =>
        reply .unit { s with queue := rest, cur := some r, attempt := 0, dstate := .exch, hist := s.hist ++ [.deq r.seq] }
      | [] => notEnabled s
    else notEnabled s)

/-- D_SLEEP (R225). -/
def execDsleep (s : State) : Step :=
  guarded .dSleep s
    (if s.dstate = .idle ∧ s.disposed = false ∧ s.queue = [] then reply .unit { s with dstate := .sleep } else notEnabled s)

/-- D_WAKE (R226). The wait before it is unobserved (R360; log 21). -/
def execDwake (s : State) : Step :=
  guarded .dWake s
    (if s.dstate = .sleep ∧ s.disposed = false then reply .unit { s with dstate := .idle } else notEnabled s)

/-- D_ATTEMPT (R227): BUILD, then the first step of the exchange of CUR. -/
def execDattempt (s : State) : Step :=
  guarded .dAttempt s
    (match s.dstate, s.cur with
    | .exch, some r =>
      if payloadTooLong r.payload then refuse .badArgument r.payload s else beginExchange r true s
    | _, _ => notEnabled s)

/-- D_RETRY (R228): after DISPOSE there is no retry. -/
def execDretry (s : State) : Step :=
  guarded .dRetry s
    (if s.dstate = .backoff then
      if s.disposed then reply .unit { s.raise .commandFailure s.curSeq [] with dstate := .deliver }
      else reply .unit { s with dstate := .exch }
    else notEnabled s)

/-- D_DELIVER (R229): the Deliver event, then the event of DECODE. -/
def execDdeliver (s : State) : Step :=
  guarded .dDeliver s
    (match s.dstate, s.cur with
    | .deliver, some r => routeBack r (fun _ => .unit) s
    | _, _ => notEnabled s)

/-- The events of D_STOP for the queued requests, in their order (R231). -/
def drainEvents (ps : Params) : List PendingRequest → Except Fault (List Event)
  | [] => .ok []
  | r :: rest =>
    match decodeAnswer ps r (zeros r.expLen) 0, drainEvents ps rest with
    | .ok d, .ok es =>
      .ok (.deq r.seq :: .deliver r.owner r.seq (zeros r.expLen) 0 false :: (decodeEvents r d ++ es))
    | .error f, _ => .error f
    | _, .error f => .error f

/-- The step of D_STOP (R231): every queued request is delivered, the dispatcher stops, and the permanent DISCONNECT closes the
port inside the step (R268, R269). -/
def stopDispatcher (s : State) : Step :=
  if s.disposed ∧ (s.dstate = .idle ∨ s.dstate = .sleep) ∧ s.tlock = .free then
    match drainEvents s.params s.queue with
    | .ok es => reply .unit (({ s with queue := [], dstate := .stopped, hist := s.hist ++ es } : State).portClosed true)
    | .error f => .fault f
  else notEnabled s

/-- D_STOP (R231). -/
def execDstop (s : State) : Step := guarded .dStop s (stopDispatcher s)

/-- The transition the dispatcher's state selects (R240). -/
def State.nextTransition (s : State) : Option Instr :=
  match s.dstate with
  | .idle => if s.disposed then some .dStop else if s.queue = [] then some .dSleep else some .dFetch
  | .sleep => if s.disposed then some .dStop else some .dWake
  | .exch => some .dAttempt
  | .backoff => some .dRetry
  | .deliver => some .dDeliver
  | .stopped => none

end Sys2Proof.Machine
end

