-- ==== Sys2Proof/Machine/Parser.lean ====
section
/-! DEFINITION. The meanings of the frame parser operations (43_frame_parser.md R180 to R200). Invoked as operations, the
validators and the DEC_ decoders return their result and write nothing; DECODE is part of route-back (R200). -/

namespace Sys2Proof.Machine

/-- V_BASE (R180). -/
def execVbase (buf : List Byte) (count n : Nat) (s : State) : Step :=
  guarded (.vBase buf count n) s (reply (.bool (vBase s.params buf count n)) s)

/-- V_CRC (R181). -/
def execVcrc (buf : List Byte) (count : Nat) (s : State) : Step :=
  guarded (.vCrc buf count) s (reply (.bool (vCrc buf count)) s)

/-- V_ADDR (R182). -/
def execVaddr (r : PendingRequest) (buf : List Byte) (s : State) : Step :=
  guarded (.vAddr r buf) s (reply (.bool (vAddr r buf)) s)

/-- V_ECHO (R183). -/
def execVecho (r : PendingRequest) (buf : List Byte) (s : State) : Step :=
  guarded (.vEcho r buf) s (reply (.bool (vEcho r buf)) s)

/-- V_REGACK (R184). -/
def execVregack (r : PendingRequest) (buf : List Byte) (s : State) : Step :=
  guarded (.vRegack r buf) s (reply (.bool (vRegack r buf)) s)

/-- V_SUCCESS (R196). -/
def execVsuccess (r : PendingRequest) (buf : List Byte) (count : Nat) (s : State) : Step :=
  guarded (.vSuccess r buf count) s (reply (.bool (vSuccess s.params r buf count)) s)

/-- A decoder for one kind (R185 to R189): another kind is refused with BAD_ARGUMENT (log 14). -/
def decoderFor (k : Kind) (r : PendingRequest) (d : Except Fault Decoded) (s : State) : Step :=
  if kind r.payload = k then replyDecoded d s else refuse .badArgument r.payload s

/-- DEC_POS (R185). -/
def execDecPos (r : PendingRequest) (buf : List Byte) (count : Nat) (s : State) : Step :=
  guarded (.decPos r buf count) s (decoderFor .qpos r (decPos s.params r buf count) s)

/-- DEC_STATE (R186). -/
def execDecState (r : PendingRequest) (buf : List Byte) (count : Nat) (s : State) : Step :=
  guarded (.decState r buf count) s (decoderFor .qstate r (decState s.params r buf count) s)

/-- DEC_DIR (R187). -/
def execDecDir (r : PendingRequest) (buf : List Byte) (count : Nat) (s : State) : Step :=
  guarded (.decDir r buf count) s (decoderFor .qdir r (decDir s.params r buf count) s)

/-- DEC_VERSION (R188). -/
def execDecVersion (r : PendingRequest) (buf : List Byte) (count : Nat) (s : State) : Step :=
  guarded (.decVersion r buf count) s (decoderFor .handshake r (decVersion s.params r buf count) s)

/-- DEC_REGACK (R189). -/
def execDecRegack (r : PendingRequest) (buf : List Byte) (count : Nat) (s : State) : Step :=
  guarded (.decRegack r buf count) s (decoderFor .register r (decRegack s.params r buf count) s)

/-- DECODE (R200): the decoder of the request's kind, and its event. It runs at route-back, "in the same atomic step as the
delivery", so the decoding of CUR's response in DELIVER is the one that is enabled, and it is that step (log 18). -/
def execDecode (r : PendingRequest) (buf : List Byte) (count : Nat) (s : State) : Step :=
  guarded (.decode r buf count) s
    (if s.dstate = .deliver ∧ s.cur = some r ∧ s.rxb = buf ∧ s.rxCount = count then routeBack r .decoded s
    else notEnabled s)

end Sys2Proof.Machine
end

