-- ==== Sys2Proof/Machine/Queue.lean ====
section
/-! DEFINITION. The meanings of the producers' and the host's queue operations (44_queue_dispatcher.md R220 to R222, R233). -/

namespace Sys2Proof.Machine

/-- ENQUEUE r (R220). -/
def execEnqueue (r : PendingRequest) (s : State) : Step :=
  guarded (.enqueue r) s (enqueueRequest r s)

/-- SEND (R222): MK_GENERIC and ENQUEUE in this step, in the check order of R307 (log 12), with target OTHER when the caller
gives none; the caller then waits for its Deliver event, which a later step of its finds (`replySend`, log 19). -/
def execSend (o : SessionId) (p : List Byte) (n : Nat) (t : Option ChannelTag) (s : State) : Step :=
  guarded (.send o p n t) s
    (if s.disposed then refuse .disposed p s
    else if badGeneric p n then refuse .badArgument p s
    else if s.queueFull then notEnabled s
    else underWay { s.enqueued (genericRequest o p n (t.getD .other)) with sends := s.sends ++ [⟨s.agent, o, s.enqSeq⟩] })

/-- DISPOSE (R233): idempotent. -/
def execDispose (s : State) : Step :=
  guarded .dispose s
    (if s.disposed then reply .unit s
    else reply .unit { s with disposed := true, hist := s.hist ++ [.disposed] })

/-- The first Deliver event of a request in the history (R222). -/
def deliveryOf (owner : SessionId) (seq : Nat) : List Event → Option Reply
  | [] => none
  | e :: rest =>
    match e with
    | .deliver o q buf count success =>
      if o = owner ∧ q = some seq then some (.answer buf count success) else deliveryOf owner seq rest
    | _ => deliveryOf owner seq rest

/-- The last step of a SEND that waits: it returns its delivery, or it is not enabled yet (R222). -/
def replySend (place : Nat) (s : State) : Step :=
  match s.sends[place]? with
  | some w =>
    match deliveryOf w.owner w.seq s.hist with
    | some a => reply a { s with sends := s.sends.eraseIdx place, agent := w.agent }
    | none => notEnabled { s with agent := w.agent }
  | none => notEnabled s

end Sys2Proof.Machine
end

