-- ==== Sys2Proof/Machine/Status.lean ====
section
/-! DEFINITION. The status registers (10_state.md R40, R45 to R52): views of the state, reserved fields 0. Each is written
with its highest field first. -/

namespace Sys2Proof.Machine

/-- A one-bit field. -/
def bit (b : Bool) : BitVec 1 := if b then 1#1 else 0#1

/-- The codes of BUS_STATE (R31). -/
def busStateCode : BusState → BitVec 2
  | .unconnected => 0
  | .connecting => 1
  | .online => 2
  | .offline => 3

/-- The codes of OFFLINE_REASON (R31). -/
def reasonCode : OfflineReason → BitVec 4
  | .none => 0
  | .configEmptyPort => 1
  | .configUnresolvablePort => 2
  | .portInUse => 3
  | .ioErrorOpen => 4
  | .unsupportedParams => 5
  | .ioErrorExchange => 6
  | .disconnected => 7

/-- The codes of DSTATE (R29). -/
def dstateCode : DState → BitVec 3
  | .idle => 0
  | .sleep => 1
  | .exch => 2
  | .backoff => 3
  | .deliver => 4
  | .stopped => 5

/-- The codes of POS_OOR_POLICY (R51). -/
def policyCode : PosPolicy → BitVec 2
  | .reject => 0
  | .clamp => 1
  | .pass => 2

/-- The codes of RX_EXCESS (R51). -/
def excessCode : RxExcess → BitVec 1
  | .discard => 0
  | .retain => 1

/-- BUS_STATUS (R45). -/
def State.busStatus (s : State) : U32 :=
  0#20 ++ reasonCode s.offlineReason ++ 0#3 ++ bit s.disposed ++ bit s.lockHeld ++ bit s.portOpen ++ busStateCode s.busState

/-- QUEUE_STATUS (R46). -/
def State.queueStatus (s : State) : U32 :=
  0#14 ++ bit s.queueFull ++ bit s.queueEmpty ++ BitVec.ofNat 16 (min s.queue.length 0xFFFF)

/-- CUR_EXP_LEN (R47). -/
def State.curExpLen (s : State) : BitVec 8 :=
  match s.cur with
  | some r => BitVec.ofNat 8 r.expLen
  | none => 0#8

/-- CUR_KIND (R47). -/
def State.curKind (s : State) : BitVec 4 :=
  match s.cur with
  | some r => kindCode (kind r.payload)
  | none => 0#4

/-- DISP_STATUS (R47). -/
def State.dispStatus (s : State) : U32 :=
  0#12 ++ s.curKind ++ s.curExpLen ++ BitVec.ofNat 4 s.attempt ++ bit s.curValid ++ dstateCode s.dstate

/-- CRC_STATUS (R48). -/
def State.crcStatus (s : State) : U32 := 0#16 ++ s.crcAcc

/-- RX_STATUS (R49). -/
def State.rxStatus (s : State) : U32 :=
  0#15 ++ bit s.rxBaseValid ++ BitVec.ofNat 8 s.rxb.length ++ BitVec.ofNat 8 s.rxCount

/-- CAUSE_STATUS (R50). -/
def State.causeStatus (s : State) : U32 := BitVec.ofNat 24 (min s.log.length 0xFFFFFF) ++ s.lastCause

/-- The QUEUE_DEPTH field of CONFIG (R51): 0xFFFF when UNBOUNDED or larger than 0xFFFE. -/
def queueDepthField : Option Nat → U16
  | some n => if n ≤ 0xFFFE then BitVec.ofNat 16 n else 0xFFFF#16
  | none => 0xFFFF#16

/-- CONFIG (R51). -/
def State.configStatus (s : State) : U32 :=
  queueDepthField s.params.queueDepth ++ Config.sync ++ excessCode s.params.rxExcess ++ policyCode s.params.posOor ++
    bit s.params.checkRxCrc ++ BitVec.ofNat 4 s.params.maxAttempts

/-- `view(idx)` (R274): the register of an index; index 7 is reserved and reads 0 (R52). -/
def State.view (s : State) (idx : Nat) : U32 :=
  match idx with
  | 0 => s.busStatus
  | 1 => s.queueStatus
  | 2 => s.dispStatus
  | 3 => s.crcStatus
  | 4 => s.rxStatus
  | 5 => s.causeStatus
  | 6 => s.configStatus
  | _ => 0#32

end Sys2Proof.Machine
end

