-- ==== Sys2Proof/Machine/Serial.lean ====
section
/-! DEFINITION. The meanings of the serial transport operations (45_serializer.md R260, R266 to R271, R274): for CONNECT,
DISCONNECT and EXCHANGE the first step (C1, K1, X1), after which the operation is under way (R70). -/

namespace Sys2Proof.Machine

/-- CONNECT, step C1 (R266): the no-op on a connected bus (R267) comes before TLOCK is required. DEDUCED (log 22): issued while
TLOCK is held, the no-op's return waits until it is free (R351, R264; `returnAfter` of Machine/Schedule.lean). -/
def execConnect (s : State) : Step :=
  guarded .connect s
    (if s.disposed then refuse .disposed [] s
    else if s.connected then reply (.bool true) s
    else if s.tlock = .free then underWay s.connectBegun
    else notEnabled s)

/-- DISCONNECT (R268): the host's is step K1; the permanent one is D_STOP's own, "both of its steps here" (R231), so it is that
transition (log 17). DESIGN CHOICE (log 17): the host's still runs once the dispatcher is STOPPED. -/
def execDisconnect (permanent : Bool) (s : State) : Step :=
  guarded (.disconnect permanent) s
    (if permanent then stopDispatcher s
    else if s.tlock = .free then underWay s.disconnectBegun
    else notEnabled s)

/-- Operands of EXCHANGE outside their ranges (R270; log 13). -/
def badExchange (frame : List Byte) (n : Nat) : Bool :=
  decide (Config.txMax < frame.length) || decide (n = 0) || decide (Config.rxMax < n)

/-- EXCHANGE (R270, R271): it is performed inside D_ATTEMPT, so the exchange of CUR, of its frame and expected length, is the
one that is enabled, and it is that attempt (R30, R227; log 18). -/
def execExchange (frame : List Byte) (n : Nat) (s : State) : Step :=
  guarded (.exchange frame n) s
    (if badExchange frame n then refuse .badArgument frame s
    else
      match s.dstate, s.cur with
      | .exch, some r => if frame = frameOf r.payload ∧ n = r.expLen then beginExchange r false s else notEnabled s
      | _, _ => notEnabled s)

/-- READ_STATUS (R274). -/
def execReadStatus (idx : Nat) (s : State) : Step :=
  guarded (.readStatus idx) s
    (if 7 < idx then refuse .badArgument [] s else reply (.status (s.view idx)) s)

/-- UART_ENCODE (R260). -/
def execUartEncode (bs : List Byte) (s : State) : Step :=
  guarded (.uartEncode bs) s (reply (.bits (uartBits bs)) s)

end Sys2Proof.Machine
end

