-- ==== Sys2Proof/Machine/Wire.lean ====
section
/-! DEFINITION. The meanings of the wire commands given to the DPE by a session (30_encoding.md R96): ISSUE.<KIND> (R106,
R237), that is MK_<KIND> of the command's operands with the session as owner, then ENQUEUE of the request (log 6). -/

namespace Sys2Proof.Machine

/-- MOVE (R154, R106): MK_MOVE refuses P above 100 before anything is enqueued. -/
def execMove (a0 a1 p : Byte) (s : State) : Step :=
  guarded (.move a0 a1 p) s
    (if 100 < p.toNat then refuse .badArgument [p] s else enqueueRequest (moveRequest (sessionOf s.agent) a0 a1 p) s)

/-- SETDIR (R158, R106): MK_SETDIR refuses d above 1 before anything is enqueued. -/
def execSetdir (a0 a1 d : Byte) (s : State) : Step :=
  guarded (.setdir a0 a1 d) s
    (if 1 < d.toNat then refuse .badArgument [d] s else enqueueRequest (setdirRequest (sessionOf s.agent) a0 a1 d) s)

/-- OPEN (R155, R106). -/
def execOpenCmd (a0 a1 : Byte) (s : State) : Step :=
  guarded (.openCmd a0 a1) s (enqueueRequest (openRequest (sessionOf s.agent) a0 a1) s)

/-- CLOSE (R156, R106). -/
def execCloseCmd (a0 a1 : Byte) (s : State) : Step :=
  guarded (.closeCmd a0 a1) s (enqueueRequest (closeRequest (sessionOf s.agent) a0 a1) s)

/-- STOP (R157, R106). -/
def execStopCmd (a0 a1 : Byte) (s : State) : Step :=
  guarded (.stopCmd a0 a1) s (enqueueRequest (stopRequest (sessionOf s.agent) a0 a1) s)

/-- QPOS (R159, R106). -/
def execQpos (a0 a1 : Byte) (s : State) : Step :=
  guarded (.qpos a0 a1) s (enqueueRequest (qposRequest (sessionOf s.agent) a0 a1) s)

/-- QSTATE (R160, R106). -/
def execQstate (a0 a1 : Byte) (s : State) : Step :=
  guarded (.qstate a0 a1) s (enqueueRequest (qstateRequest (sessionOf s.agent) a0 a1) s)

/-- QDIR (R161, R106). -/
def execQdir (a0 a1 : Byte) (s : State) : Step :=
  guarded (.qdir a0 a1) s (enqueueRequest (qdirRequest (sessionOf s.agent) a0 a1) s)

/-- HANDSHAKE (R162, R106). -/
def execHandshake (a0 a1 : Byte) (s : State) : Step :=
  guarded (.handshake a0 a1) s (enqueueRequest (handshakeRequest (sessionOf s.agent) a0 a1) s)

/-- REGISTER (R163, R106). -/
def execRegister (n0 n1 : Byte) (s : State) : Step :=
  guarded (.register n0 n1) s (enqueueRequest (registerRequest (sessionOf s.agent) n0 n1) s)

/-- GENERIC (R164, R98): MK_GENERIC of the caller's payload, length and target, then ENQUEUE. -/
def execGeneric (p : List Byte) (n : Nat) (t : ChannelTag) (s : State) : Step :=
  guarded (.generic p n t) s
    (if badGeneric p n then refuse .badArgument p s else enqueueRequest (genericRequest (sessionOf s.agent) p n t) s)

end Sys2Proof.Machine
end

