-- ==== Sys2Proof/Machine/Dispatch.lean ====
section
/-! DEFINITION. exec: one arm per instruction, each a direct call of its meaning. -/

namespace Sys2Proof.Machine

def exec (i : Instr) (s : State) : Host.Outcome State Fault Refusal :=
  match i with
  | .move a0 a1 p => Sys2Proof.Machine.execMove a0 a1 p s
  | .openCmd a0 a1 => Sys2Proof.Machine.execOpenCmd a0 a1 s
  | .closeCmd a0 a1 => Sys2Proof.Machine.execCloseCmd a0 a1 s
  | .stopCmd a0 a1 => Sys2Proof.Machine.execStopCmd a0 a1 s
  | .setdir a0 a1 d => Sys2Proof.Machine.execSetdir a0 a1 d s
  | .qpos a0 a1 => Sys2Proof.Machine.execQpos a0 a1 s
  | .qstate a0 a1 => Sys2Proof.Machine.execQstate a0 a1 s
  | .qdir a0 a1 => Sys2Proof.Machine.execQdir a0 a1 s
  | .handshake a0 a1 => Sys2Proof.Machine.execHandshake a0 a1 s
  | .register n0 n1 => Sys2Proof.Machine.execRegister n0 n1 s
  | .generic p expLen target => Sys2Proof.Machine.execGeneric p expLen target s
  | .crcInit => Sys2Proof.Machine.execCrcInit s
  | .crcByte b => Sys2Proof.Machine.execCrcByte b s
  | .crcRead => Sys2Proof.Machine.execCrcRead s
  | .checksum bs => Sys2Proof.Machine.execChecksum bs s
  | .build p => Sys2Proof.Machine.execBuild p s
  | .expLen p hint => Sys2Proof.Machine.execExpLen p hint s
  | .mkMove owner a0 a1 p => Sys2Proof.Machine.execMkMove owner a0 a1 p s
  | .mkOpen owner a0 a1 => Sys2Proof.Machine.execMkOpen owner a0 a1 s
  | .mkClose owner a0 a1 => Sys2Proof.Machine.execMkClose owner a0 a1 s
  | .mkStop owner a0 a1 => Sys2Proof.Machine.execMkStop owner a0 a1 s
  | .mkSetdir owner a0 a1 d => Sys2Proof.Machine.execMkSetdir owner a0 a1 d s
  | .mkQpos owner a0 a1 => Sys2Proof.Machine.execMkQpos owner a0 a1 s
  | .mkQstate owner a0 a1 => Sys2Proof.Machine.execMkQstate owner a0 a1 s
  | .mkQdir owner a0 a1 => Sys2Proof.Machine.execMkQdir owner a0 a1 s
  | .mkHandshake owner a0 a1 => Sys2Proof.Machine.execMkHandshake owner a0 a1 s
  | .mkRegister owner n0 n1 => Sys2Proof.Machine.execMkRegister owner n0 n1 s
  | .mkGeneric owner p expLen target => Sys2Proof.Machine.execMkGeneric owner p expLen target s
  | .enqueue r => Sys2Proof.Machine.execEnqueue r s
  | .send owner p expLen target => Sys2Proof.Machine.execSend owner p expLen target s
  | .dispose => Sys2Proof.Machine.execDispose s
  | .dFetch => Sys2Proof.Machine.execDfetch s
  | .dSleep => Sys2Proof.Machine.execDsleep s
  | .dWake => Sys2Proof.Machine.execDwake s
  | .dAttempt => Sys2Proof.Machine.execDattempt s
  | .dRetry => Sys2Proof.Machine.execDretry s
  | .dDeliver => Sys2Proof.Machine.execDdeliver s
  | .dStop => Sys2Proof.Machine.execDstop s
  | .vBase buf count expLen => Sys2Proof.Machine.execVbase buf count expLen s
  | .vCrc buf count => Sys2Proof.Machine.execVcrc buf count s
  | .vAddr r buf => Sys2Proof.Machine.execVaddr r buf s
  | .vEcho r buf => Sys2Proof.Machine.execVecho r buf s
  | .vRegack r buf => Sys2Proof.Machine.execVregack r buf s
  | .vSuccess r buf count => Sys2Proof.Machine.execVsuccess r buf count s
  | .decPos r buf count => Sys2Proof.Machine.execDecPos r buf count s
  | .decState r buf count => Sys2Proof.Machine.execDecState r buf count s
  | .decDir r buf count => Sys2Proof.Machine.execDecDir r buf count s
  | .decVersion r buf count => Sys2Proof.Machine.execDecVersion r buf count s
  | .decRegack r buf count => Sys2Proof.Machine.execDecRegack r buf count s
  | .decode r buf count => Sys2Proof.Machine.execDecode r buf count s
  | .connect => Sys2Proof.Machine.execConnect s
  | .disconnect permanent => Sys2Proof.Machine.execDisconnect permanent s
  | .exchange frame expLen => Sys2Proof.Machine.execExchange frame expLen s
  | .readStatus idx => Sys2Proof.Machine.execReadStatus idx s
  | .uartEncode bs => Sys2Proof.Machine.execUartEncode bs s

end Sys2Proof.Machine
end

