-- ==== Sys2Proof/Machine/Schedule.lean ====
section
/-! DEFINITION. How the moves of the agents reach the operations (00_scope.md R13, R15; 20_memory.md R72, R74; log 5, 7, 19, 22):
the invocation of an operation, the operations that agents hold, and what moves when no input is listed. -/

namespace Sys2Proof.Machine

/-- A CONNECT has found the bus connected (R267) while another transport operation holds TLOCK. -/
def noOpWaits (i : Instr) (s : State) : Bool := decide (i = .connect ∧ s.result = .ok (.bool true) ∧ s.tlock ≠ .free)

/-- A CONNECT issued while TLOCK is held waits until it is free (R351, R264): the no-op is decided in its step C1, which changes
nothing, and its return waits (log 22). Every other operation ends as it does. -/
def returnAfter (i : Instr) (o : Step) : Step :=
  match o with
  | .next s => if noOpWaits i s then underWay { s with connectReturns := s.connectReturns + 1 } else .next s
  | .fault f => .fault f
  | .refused r => .refused r

/-- A CONNECT whose return waited returns ok(true), once TLOCK is free (R267, R351). -/
def returnConnect (s : State) : Step :=
  if s.connectReturns ≠ 0 ∧ s.tlock = .free then
    reply (.bool true) { s with connectReturns := s.connectReturns - 1, agent := .host }
  else notEnabled { s with agent := .host }

/-- The operation an agent invokes, from its transaction: an op number that R102 does not assign is refused with BAD_OPCODE
(R104); operand bytes that are no operands are no transaction of the DPE (log 16). -/
def runTransaction (a : Agent) (t : Transaction) (s : State) : Step :=
  match decode t with
  | .ok i => returnAfter i (exec i { s with agent := a })
  | .error (.unassignedOp op) => refuse .badOpcode [op] { s with agent := a }
  | .error e => .refused (.malformedTransaction e)

/-- A producer performs its operations one after another (R74, R221, R222): it is blocked while one of `earlier` or a SEND of
its own is not done. The host's and the dispatcher's operations are not (R308). -/
def State.blocked (s : State) (earlier : List HeldOp) (a : Agent) : Bool :=
  match a with
  | .producer _ => earlier.any (fun h => decide (h.agent = a)) || s.sends.any (fun w => decide (w.agent = a))
  | .host => false
  | .dispatcher => false

/-- Whether an agent holds an operation that was not enabled and tries it again (R13, R221). The dispatcher does not: its
state selects its next transition anew (R240). -/
def holds : Agent → Bool
  | .producer _ => true
  | .host => true
  | .dispatcher => false

/-- An operation that was not enabled is held (R221: "nothing is dropped"). -/
def heldAfter (a : Agent) (t : Transaction) (o : Step) : Step :=
  match o with
  | .next s => if s.result = .notEnabled ∧ holds a then .next { s with held := s.held ++ [⟨a, t⟩] } else .next s
  | .fault f => .fault f
  | .refused r => .refused r

/-- The move of an agent that invokes an operation. -/
def invokeStep (a : Agent) (t : Transaction) (s : State) : Step :=
  if s.blocked s.held a then heldAfter a t (notEnabled { s with agent := a })
  else heldAfter a t (runTransaction a t s)

/-- A held operation is no longer held once it was enabled. -/
def releasedAfter (place : Nat) (o : Step) : Step :=
  match o with
  | .next s => if s.result = .notEnabled then .next s else .next { s with held := s.held.eraseIdx place }
  | .fault f => .fault f
  | .refused r => .refused r

/-- The move of an agent that tries a held operation again (R221). -/
def retryHeld (place : Nat) (s : State) : Step :=
  match s.held[place]? with
  | some h =>
    if s.blocked (s.held.take place) h.agent then notEnabled { s with agent := h.agent }
    else releasedAfter place (runTransaction h.agent h.txn s)
  | none => notEnabled s

/-- The dispatcher's own move (R240). -/
def dispatcherStep (s : State) : Step :=
  match s.nextTransition with
  | some i => exec i { s with agent := .dispatcher }
  | none => notEnabled { s with agent := .dispatcher }

/-- Whether a step was one that its agent could take. -/
def wasEnabled (o : Step) : Bool :=
  match o with
  | .next s => decide (s.result ≠ .notEnabled)
  | .fault _ => true
  | .refused _ => true

/-- The first place below `n` at which a move is enabled. -/
def firstEnabled (move : Nat → Step) (n : Nat) : Option Nat :=
  (List.range n).find? (fun k => wasEnabled (move k))

/-- The move when no input is listed (log 7): the transport operation under way ends; else a CONNECT whose return waited
returns; else the first held operation that is enabled; else the first SEND whose delivery stands in the history; else the dispatcher's transition. -/
def idleStep (s : State) : Step :=
  if s.xop ≠ .idle then finishTransport s
  else if wasEnabled (returnConnect s) then returnConnect s
  else
    match firstEnabled (fun k => retryHeld k s) s.held.length, firstEnabled (fun k => replySend k s) s.sends.length with
    | some k, _ => retryHeld k s
    | none, some k => replySend k s
    | none, none => dispatcherStep s

/-- The move an input stands for. -/
def takeInput (x : Input) (s : State) : Step :=
  match x with
  | .invoke a t => invokeStep a t s
  | .retry place => retryHeld place s
  | .finish => finishTransport s
  | .reply place => replySend place s
  | .dispatch => dispatcherStep s
  | .connectReturn => returnConnect s
  | .configure name => .next { s with portName := name }

/-- A session whose reference is longer than that of every session that holds an operation or waits in a SEND: a producer that
is not blocked. -/
def State.freshSession (s : State) : SessionId :=
  let sessions := s.held.map (fun h => sessionOf h.agent) ++ s.sends.map (fun w => sessionOf w.agent)
  ⟨List.replicate ((sessions.map (fun o => o.ref.length + 1)).foldr max 0) 0#8⟩

/-- An agent that may perform a transaction (R102) and is not blocked. -/
def State.callerOf (s : State) (t : Transaction) : Agent :=
  match decode t with
  | .ok i =>
    match invokedBy i with
    | .host => .host
    | .producer => .producer s.freshSession
    | .dispatcher => .dispatcher
    | .any => .host
  | .error _ => .host

end Sys2Proof.Machine
end

