-- ==== Sys2Proof/Machine/Step.lean ====
section
/-! DEFINITION. One step of the machine: the next listed move, or the machine's own (log 7). -/

namespace Sys2Proof.Machine

/-- One atomic step (R72). -/
def step (s : State) : Host.Outcome State Fault Refusal :=
  match s.inputs with
  | [] => idleStep s
  | x :: rest => takeInput x { s with inputs := rest }

/-- `s` with the instruction of a table row as the next move, invoked by an agent that may (log 4, log 5). -/
def State.withFetchWord (s : State) (nbits w : Nat) : State :=
  { s with inputs := .invoke (s.callerOf (tableTransaction nbits w)) (tableTransaction nbits w) :: s.inputs }

end Sys2Proof.Machine
end

