-- ==== Sys2Proof/Safety.lean ====
section
/-! DEFINITION. What holds of a DPE in every state it can reach: the invariants that 10_state.md, 44_queue_dispatcher.md and
45_serializer.md state of the elements (Invariants), and the order of the requests in the history (FifoInv; R73, R76, R232). -/

namespace Sys2Proof.Machine

/-- The bounds of a queued or in-flight request (R32, R220). -/
def RequestBounds (r : PendingRequest) : Prop :=
  r.payload.length ≤ 253 ∧ 1 ≤ r.expLen ∧ r.expLen ≤ 255

/-- The legal parameters (R8, R238): 1..15 attempts, a positive queue depth, a dispatcher tick of 500..1000 ms. -/
def ParamsLegal (ps : Params) : Prop :=
  1 ≤ ps.maxAttempts ∧ ps.maxAttempts ≤ 15 ∧ (∀ n, ps.queueDepth = some n → 1 ≤ n) ∧
    500 ≤ ps.dispatchTickMs ∧ ps.dispatchTickMs ≤ 1000

/-- TLOCK names the transport operation under way (R36, R264). -/
def lockOf : TransportOp → LockState
  | .idle => .free
  | .connect => .heldConnect
  | .disconnect => .heldDisconnect
  | .exchange _ _ => .heldExchange

/-- The invariants of the state. -/
structure Invariants (s : State) : Prop where
  /-- R8, R340. -/
  params : ParamsLegal s.params
  /-- R23. -/
  txbBound : s.txb.length ≤ 255
  /-- R24. -/
  rxbBound : s.rxb.length ≤ 255
  /-- R25. -/
  rxCountBound : s.rxCount ≤ s.rxb.length
  /-- R27. -/
  capacity : ∀ n, s.params.queueDepth = some n → s.queue.length ≤ n
  /-- R32. -/
  queueBounds : ∀ r ∈ s.queue, RequestBounds r
  /-- R32. -/
  curBounds : ∀ r, s.cur = some r → RequestBounds r
  /-- R28. -/
  curHeld : s.cur.isSome = true ↔ (s.dstate = .exch ∨ s.dstate = .backoff ∨ s.dstate = .deliver)
  /-- R30. -/
  attemptBound : s.attempt ≤ s.params.maxAttempts
  /-- R30. -/
  attemptZero : s.cur = none → s.attempt = 0
  /-- R227: an attempt is made or waited for only below the maximum. -/
  attemptLeft : (s.dstate = .exch ∨ s.dstate = .backoff) → s.attempt < s.params.maxAttempts
  /-- R31. -/
  reason : s.offlineReason = .none ↔ s.busState ≠ .offline
  /-- R35, R269: the port is open exactly when the bus is ONLINE, until the permanent disconnect of D_STOP; before DISPOSE the
  dispatcher is not STOPPED (`stopped`), and a CONNECT or DISCONNECT under way does not come between the two. -/
  portOnline : s.dstate ≠ .stopped → (s.portOpen = true ↔ s.busState = .online)
  /-- R36, R264. -/
  lock : s.tlock = lockOf s.xop
  /-- R266: CONNECTING is seen only between C1 and C2. -/
  connecting : s.busState = .connecting ↔ s.xop = .connect
  /-- R270: the operands of the exchange under way. -/
  exchangeBounds : ∀ n a, s.xop = .exchange n a → 1 ≤ n ∧ n ≤ 255
  /-- R223, R227, R344: every exchange under way is an attempt of CUR. -/
  attemptExchange : ∀ n a, s.xop = .exchange n a → s.dstate = .exch ∧ ∃ r, s.cur = some r ∧ r.expLen = n
  /-- R231, R269: STOPPED follows DISPOSE, with nothing queued, the port closed and no CONNECT under way. -/
  stopped : s.dstate = .stopped → s.disposed = true ∧ s.queue = [] ∧ s.portOpen = false ∧ s.xop ≠ .connect
  /-- R38, R300. -/
  lastCause : s.lastCause = (match s.log.getLast? with | some e => e.cause | none => 0#8)
  /-- R300: codes 14 to 255 are never raised. -/
  causeCodes : ∀ e ∈ s.log, 1 ≤ e.cause.toNat ∧ e.cause.toNat ≤ 13

/-- The sequence numbers of the Enq events, in their order (R44). -/
def enqSeqs (h : List Event) : List (Option Nat) :=
  h.filterMap (fun e => match e with | .enq q _ _ _ _ => some (some q) | _ => none)

/-- The sequence numbers of the Deq events, in their order (R44). -/
def deqSeqs (h : List Event) : List (Option Nat) :=
  h.filterMap (fun e => match e with | .deq q => some q | _ => none)

/-- The sequence numbers of the Deliver events, in their order (R44). -/
def deliverSeqs (h : List Event) : List (Option Nat) :=
  h.filterMap (fun e => match e with | .deliver _ q _ _ _ => some q | _ => none)

/-- FIFO and exactly-once in the history (R73, R76, R232): requests are numbered in the order of their acceptance, dequeued
in that order, and delivered in the order of their dequeue; what is accepted and not dequeued is the queue, and what is
dequeued and not delivered is CUR. -/
structure FifoInv (s : State) : Prop where
  /-- R220: ENQ_SEQ numbers the accepted requests. -/
  accepted : enqSeqs s.hist = (List.range s.enqSeq).map some
  /-- R224: the order of the Deq events is the order of the Enq events. -/
  dequeued : enqSeqs s.hist = deqSeqs s.hist ++ s.queue.map (·.seq)
  /-- R76, R229: every request dequeued is delivered once, in that order. -/
  delivered : deqSeqs s.hist = deliverSeqs s.hist ++ (s.cur.toList.map (·.seq))

end Sys2Proof.Machine
end

