-- ==== Sys2Proof/Certificates/Slice0/Obligations.lean ====
section
/-! DEFINITION. The statements about the model, for the provers. The names of Sys2Proof.Claim write out what a rule says in
its own terms (a refusal's record, an accepted request, the validity of an answer, the events of a delivery), so that a
statement does not rest on the model's own functions for it. Every equation with `.next` gives the whole next state: what it
does not name is as before. -/

namespace Sys2Proof.Claim

open Sys2Proof.Machine

/-- The state after an operation that ended in ok(v) and changed nothing (R13). -/
def answered (s : State) (v : Reply) : State := { s with result := .ok v }

/-- The state after an operation that was not enabled (R13). -/
def waiting (s : State) : State := { s with result := .notEnabled }

/-- The record of a cause (R300): LOG, LAST_CAUSE and H. -/
def recorded (s : State) (code : Byte) (seq : Option Nat) (info : List Byte) : State :=
  { s with
    lastCause := code
    log := s.log ++ [⟨code, seq, info⟩]
    hist := s.hist ++ [.logged code seq info] }

/-- The state after a refusal (R13, R301). -/
def refusedWith (s : State) (c : Cause) (code : Byte) (info : List Byte) : State :=
  { recorded s code none info with result := .refused c }

/-- The state after an accepted request (R220), the result apart. -/
def accepted (s : State) (r : PendingRequest) : State :=
  { s with
    queue := s.queue ++ [{ r with seq := some s.enqSeq }]
    enqSeq := s.enqSeq + 1
    hist := s.hist ++ [.enq s.enqSeq r.owner r.payload r.expLen r.target] }

/-- The queue has room (R27, R221). -/
def Room (s : State) : Prop := ∀ n, s.params.queueDepth = some n → s.queue.length ≠ n

/-- The queue is full (R221). -/
def Full (s : State) : Prop := s.params.queueDepth = some s.queue.length

/-- The lengths ENQUEUE accepts (R220). -/
def LengthsOk (r : PendingRequest) : Prop := r.payload.length ≤ 253 ∧ 1 ≤ r.expLen ∧ r.expLen ≤ 255

/-- An unassigned request (R153). -/
def request (owner : SessionId) (payload : List Byte) (n : Nat) (target : ChannelTag) : PendingRequest :=
  ⟨owner, payload, n, target, none⟩

/-- The low byte, then the high byte, of a CRC (R133). -/
def crcBytes (c : U16) : List Byte := [c.extractLsb' 0 8, c.extractLsb' 8 8]

/-- `n` zero bytes (R11). -/
def blank (n : Nat) : List Byte := List.replicate n 0x00#8

/-- The bus is ONLINE and the port open (R270). -/
def Online (s : State) : Prop := s.busState = .online ∧ s.portOpen = true

/-- The trailer check (R181). -/
def TrailerOk (buf : List Byte) (count : Nat) : Prop := count = buf.length ∧ 3 ≤ buf.length ∧ crc16 buf = 0x0000#16

/-- All of the expected length was received (R180, R190). -/
def Whole (buf : List Byte) (count n : Nat) : Prop := 1 ≤ n ∧ buf.length = n ∧ count = n

/-- The base validity of an answer (R180). -/
def BaseValid (ps : Params) (buf : List Byte) (count n : Nat) : Prop :=
  Whole buf count n ∧ buf[0]? = some 0x55#8 ∧ (ps.checkRxCrc = true → TrailerOk buf count)

/-- The first failing base check (R190, R191). -/
def BaseDiscard (ps : Params) (buf : List Byte) (count n : Nat) (d : DiscardReason) : Prop :=
  (¬ Whole buf count n ∧ d = .short) ∨
    (Whole buf count n ∧ buf[0]? ≠ some 0x55#8 ∧ d = .noSync) ∨
    (Whole buf count n ∧ buf[0]? = some 0x55#8 ∧ ps.checkRxCrc = true ∧ ¬ TrailerOk buf count ∧ d = .badCrc)

/-- The address filter (R182). -/
def AddressOk (r : PendingRequest) (buf : List Byte) : Prop :=
  kind r.payload ≠ .register → kind r.payload ≠ .generic →
    3 ≤ buf.length ∧ buf[1]? = r.payload[1]? ∧ buf[2]? = r.payload[2]?

/-- The echo kinds (R34). -/
def EchoKind (k : Kind) : Prop := k = .move ∨ k = .openCmd ∨ k = .closeCmd ∨ k = .stopCmd ∨ k = .setdir

/-- The query kinds (R34), whose answer's value byte is at index 5 (R92). -/
def QueryKind (k : Kind) : Prop := k = .qpos ∨ k = .qstate ∨ k = .qdir ∨ k = .handshake

/-- The echo comparison (R183). -/
def EchoOk (r : PendingRequest) (buf : List Byte) : Prop :=
  EchoKind (kind r.payload) → r.payload.length ≤ buf.length ∧ buf.take r.payload.length = r.payload

/-- The registration acknowledgement (R184). -/
def RegisterOk (r : PendingRequest) (buf : List Byte) : Prop :=
  kind r.payload = .register → 10 ≤ buf.length ∧ buf[8]? = r.payload[6]? ∧ buf[9]? = r.payload[7]?

/-- The success criterion (R196). -/
def Success (ps : Params) (r : PendingRequest) (buf : List Byte) (count : Nat) : Prop :=
  BaseValid ps buf count r.expLen ∧ AddressOk r buf ∧ EchoOk r buf ∧ RegisterOk r buf

/-- A validator's answer: the Boolean of a condition, and no other change. -/
def AnswersWhether (i : Instr) (s : State) (p : Prop) : Prop :=
  ∃ b : Bool, exec i s = .next (answered s (.bool b)) ∧ (b = true ↔ p)

/-- What a decoder of a query answer finds (R185 to R188), `value` being the rule's table for byte 5. -/
def ValueAnswer (ps : Params) (r : PendingRequest) (buf : List Byte) (count : Nat) (value : Byte → Decoded → Prop)
    (d : Decoded) : Prop :=
  (∃ x, BaseDiscard ps buf count r.expLen x ∧ d = .discard x) ∨
    (BaseValid ps buf count r.expLen ∧ ¬ AddressOk r buf ∧ d = .discard .addrMismatch) ∨
    (BaseValid ps buf count r.expLen ∧ AddressOk r buf ∧ ∃ v, buf[5]? = some v ∧ value v d)

/-- The position byte (R185). -/
def PositionValue (ps : Params) (v : Byte) (d : Decoded) : Prop :=
  (v = 0xFF#8 ∧ d = .discard .posUnset) ∨
    (v.toNat ≤ 100 ∧ d = .value (.position v)) ∨
    (100 < v.toNat ∧ v.toNat ≤ 254 ∧ ps.posOor = .reject ∧ d = .discard .posOutOfRange) ∨
    (100 < v.toNat ∧ v.toNat ≤ 254 ∧ ps.posOor = .clamp ∧ d = .value (.position 100#8)) ∨
    (100 < v.toNat ∧ v.toNat ≤ 254 ∧ ps.posOor = .pass ∧ d = .value (.position v))

/-- The motion-state byte (R186). -/
def MotionValue (v : Byte) (d : Decoded) : Prop :=
  (v = 0#8 ∧ d = .value (.motion .stop)) ∨ (v = 1#8 ∧ d = .value (.motion .opening)) ∨
    (v = 2#8 ∧ d = .value (.motion .closing)) ∨ (v = 3#8 ∧ d = .value (.motion .programming)) ∨
    (4 ≤ v.toNat ∧ d = .discard .unrecognizedValue)

/-- The direction byte (R187). -/
def DirectionValue (v : Byte) (d : Decoded) : Prop :=
  (v = 0#8 ∧ d = .value (.direction .direct)) ∨ (v = 1#8 ∧ d = .value (.direction .reverse)) ∨
    (2 ≤ v.toNat ∧ d = .discard .unrecognizedValue)

/-- The version byte (R188). -/
def VersionValue (v : Byte) (d : Decoded) : Prop := d = .value (.version v)

/-- What the decoder of a registration answer finds (R189). -/
def RegisterAnswer (ps : Params) (r : PendingRequest) (buf : List Byte) (count : Nat) (d : Decoded) : Prop :=
  (∃ x, BaseDiscard ps buf count r.expLen x ∧ d = .discard x) ∨
    (BaseValid ps buf count r.expLen ∧ ¬ RegisterOk r buf ∧ d = .discard .noRegAck) ∨
    (BaseValid ps buf count r.expLen ∧ RegisterOk r buf ∧
      ∃ n0 n1, r.payload[6]? = some n0 ∧ r.payload[7]? = some n1 ∧ d = .value (.programmingAck n0 n1))

/-- What DECODE finds in the answer of an echo kind (R200, R191). -/
def EchoAnswer (ps : Params) (r : PendingRequest) (buf : List Byte) (count : Nat) (d : Decoded) : Prop :=
  (∃ x, BaseDiscard ps buf count r.expLen x ∧ d = .discard x) ∨
    (BaseValid ps buf count r.expLen ∧ ¬ AddressOk r buf ∧ d = .discard .addrMismatch) ∨
    (BaseValid ps buf count r.expLen ∧ AddressOk r buf ∧ ¬ EchoOk r buf ∧ d = .discard .noEcho) ∨
    (Success ps r buf count ∧ d = .noEvent)

/-- What DECODE finds in an answer, by the request's kind (R200). -/
def AnswerOf (ps : Params) (r : PendingRequest) (buf : List Byte) (count : Nat) (d : Decoded) : Prop :=
  match kind r.payload with
  | .qpos => ValueAnswer ps r buf count (PositionValue ps) d
  | .qstate => ValueAnswer ps r buf count MotionValue d
  | .qdir => ValueAnswer ps r buf count DirectionValue d
  | .handshake => ValueAnswer ps r buf count VersionValue d
  | .register => RegisterAnswer ps r buf count d
  | .move | .openCmd | .closeCmd | .stopCmd | .setdir => EchoAnswer ps r buf count d
  | .generic => d = .noEvent

/-- A valid query answer too short to hold byte 5: the read R61 has fault. -/
def ReadsOutside (ps : Params) (r : PendingRequest) (buf : List Byte) (count : Nat) : Prop :=
  QueryKind (kind r.payload) ∧ BaseValid ps buf count r.expLen ∧ AddressOk r buf ∧ buf.length ≤ 5

/-- The event DECODE records (R200). -/
def eventsOf (r : PendingRequest) : Decoded → List Event
  | .value v => [.emitted r.owner r.target v]
  | .discard x => [.discarded r.owner r.seq x]
  | .noEvent => []

/-- One of the four decoders of query answers (R185 to R188): another kind is refused with BAD_ARGUMENT, a read outside the
buffer faults (R61), and else the decoder answers what it finds and changes nothing. -/
def DecoderAnswers (i : PendingRequest → List Byte → Nat → Instr) (k : Kind) (value : Params → Byte → Decoded → Prop) :
    Prop :=
  ∀ (s : State) (r : PendingRequest) (buf : List Byte) (count : Nat),
    (kind r.payload ≠ k → ∃ info, exec (i r buf count) s = .next (refusedWith s .badArgument 11#8 info)) ∧
    (kind r.payload = k → ReadsOutside s.params r buf count → exec (i r buf count) s = .fault .bufferRange) ∧
    (kind r.payload = k → ¬ ReadsOutside s.params r buf count →
      ∃ d, ValueAnswer s.params r buf count (value s.params) d ∧
        exec (i r buf count) s = .next (answered s (.decoded d)))

/-- The response `buf` of `r` is to be routed back (R229). -/
def routingBack (s : State) (r : PendingRequest) (buf : List Byte) (count : Nat) : State :=
  { s with agent := .dispatcher, dstate := .deliver, cur := some r, rxb := buf, rxCount := count }

/-- The parser makes no difference between two buffers: V_SUCCESS answers the same, and DECODE finds the same and records the
same events after the Deliver event of each buffer. -/
def SameParse (s : State) (r : PendingRequest) (buf other : List Byte) (count : Nat) : Prop :=
  vSuccess s.params r buf count = vSuccess s.params r other count ∧
    ∀ t, exec (.decode r buf count) (routingBack s r buf count) = .next t →
      ∃ u success es, exec (.decode r other count) (routingBack s r other count) = .next u ∧ u.result = t.result ∧
        t.hist = s.hist ++ .deliver r.owner r.seq buf count success :: es ∧
        u.hist = s.hist ++ .deliver r.owner r.seq other count success :: es

/-- A draw of the line (R270): the next listed answer, or the free value of the count of draws (log 9). -/
def DrawsLine (s : State) (a : LineAnswer) (t : State) : Prop :=
  (∃ more, s.lineIn = a :: more ∧ t = { s with lineIn := more }) ∨
    (s.lineIn = [] ∧ a = Config.freeLine s.draws ∧ t = { s with draws := s.draws + 1 })

/-- A draw of the port opening (R266): the next listed answer, or the free value of the count of draws (log 9). -/
def DrawsPort (s : State) (a : PortAnswer) (t : State) : Prop :=
  (∃ more, s.portIn = a :: more ∧ t = { s with portIn := more }) ∨
    (s.portIn = [] ∧ a = Config.freePort s.draws ∧ t = { s with draws := s.draws + 1 })

/-- The drained bytes in a buffer of `n` bytes (R270). -/
def drained (n : Nat) (avail : List Byte) : List Byte := avail.take n ++ blank (n - min avail.length n)

/-- Step X2 of an exchange up to the release of TLOCK (R270, R272, R273), `seq` being CUR's. -/
def exchanged (s : State) (n : Nat) (seq : Option Nat) (a : LineAnswer) : State :=
  match a with
  | .bytes avail =>
    { s with
      rxb := drained n avail
      rxCount := min avail.length n
      hist := s.hist ++ [.rx (drained n avail) (min avail.length n)]
      tlock := .free
      xop := .idle }
  | .ioFailure =>
    { s with
      rxb := blank n
      rxCount := 0
      portOpen := false
      busState := .offline
      offlineReason := .ioErrorExchange
      lastCause := 6#8
      log := s.log ++ [⟨6#8, seq, []⟩]
      hist := s.hist ++ [.bus .offline .ioErrorExchange, .logged 6#8 seq [], .rx (blank n) 0]
      tlock := .free
      xop := .idle }
  | .fault =>
    { s with
      rxb := blank n
      rxCount := 0
      hist := s.hist ++ [.rx (blank n) 0]
      tlock := .free
      xop := .idle }

/-- The rest of D_ATTEMPT, part of the final step of its exchange (R227): `s` before, `u` after the exchange and the count. -/
def DecidesRetry (s : State) (r : PendingRequest) (fault : Prop) (u : State) (o : Step) : Prop :=
  (fault → o = .next { recorded u 10#8 r.seq [] with dstate := .deliver }) ∧
  (¬ fault → Success s.params r u.rxb u.rxCount → o = .next { u with dstate := .deliver }) ∧
  (¬ fault → ¬ Success s.params r u.rxb u.rxCount → (s.params.maxAttempts ≤ s.attempt + 1 ∨ s.disposed = true) →
    o = .next { recorded u 9#8 r.seq [] with dstate := .deliver }) ∧
  (¬ fault → ¬ Success s.params r u.rxb u.rxCount → s.attempt + 1 < s.params.maxAttempts → s.disposed = false →
    o = .next { u with dstate := .backoff })

/-- The events of D_STOP for the requests still queued (R231). -/
def stopEvents (q : List PendingRequest) : List Event :=
  q.flatMap (fun r =>
    [.deq r.seq, .deliver r.owner r.seq (blank r.expLen) 0 false] ++
      (if kind r.payload = .generic then [] else [.discarded r.owner r.seq .short]))

/-- The state after D_STOP (R231, R268). -/
def stopped (s : State) : State :=
  { s with
    queue := [], dstate := .stopped, portOpen := false, hist := s.hist ++ stopEvents s.queue, result := .ok .unit }

/-- D_STOP is enabled (R231). -/
def MayStop (s : State) : Prop := s.disposed = true ∧ (s.dstate = .idle ∨ s.dstate = .sleep) ∧ s.tlock = .free

/-- The dispatcher is at the exchange of this frame and expected length: CUR's (R227). -/
def AtExchange (s : State) (f : List Byte) (n : Nat) (r : PendingRequest) : Prop :=
  s.dstate = .exch ∧ s.cur = some r ∧ f = r.payload ++ crcBytes (crc16 r.payload) ∧ n = r.expLen

/-- The dispatcher is at the route-back of this response to this request (R229). -/
def AtRouteBack (s : State) (r : PendingRequest) (buf : List Byte) (count : Nat) : Prop :=
  s.dstate = .deliver ∧ s.cur = some r ∧ s.rxb = buf ∧ s.rxCount = count

/-- Step C2 of a CONNECT that fails (R266): the reason's code is the cause. -/
def connectRefused (s : State) (reason : OfflineReason) (code : Byte) : State :=
  { s with
    portOpen := false
    busState := .offline
    offlineReason := reason
    lastCause := code
    log := s.log ++ [⟨code, none, []⟩]
    hist := s.hist ++ [.bus .offline reason, .logged code none []]
    tlock := .free
    xop := .idle
    result := .ok (.bool false) }

/-- An operation is a CONNECT that has found the bus connected while TLOCK is held: `u` is the state after its step C1. -/
def NoOpWaits (i : Instr) (u : State) : Prop := i = .connect ∧ u.result = .ok (.bool true) ∧ u.tlock ≠ .free

/-- The return of that CONNECT waits until TLOCK is free (R351; log 22). -/
def returnsLater (u : State) : State := { u with connectReturns := u.connectReturns + 1, result := .underWay }

/-- Several operations one after another, each by the agent the state names. -/
def execAll : List Instr → State → Step
  | [], s => .next s
  | i :: is, s =>
    match exec i s with
    | .next t => execAll is t
    | .fault f => .fault f
    | .refused r => .refused r

/-- The dispatcher's transitions (R240). -/
def transitions : List Instr := [.dFetch, .dSleep, .dWake, .dAttempt, .dRetry, .dDeliver, .dStop]

/-- A wire command of a session: MK_<KIND> gives a request, and ENQUEUE takes it (R106). -/
def IssuesRequest (i : Instr) (r : SessionId → PendingRequest) : Prop :=
  ∀ (s : State) (q : SessionId), s.agent = .producer q →
    (s.disposed = true → exec i s = .next (refusedWith s .disposed 12#8 (r q).payload)) ∧
    (s.disposed = false → Full s → exec i s = .next (waiting s)) ∧
    (s.disposed = false → Room s → exec i s = .next { accepted s (r q) with result := .ok (.seq s.enqSeq) })

/-- An operation number with no row in R102 (R104). -/
def Unassigned (op : Byte) : Prop :=
  op.toNat = 0x00 ∨ (0x05 ≤ op.toNat ∧ op.toNat ≤ 0x0F) ∨ (0x1D ≤ op.toNat ∧ op.toNat ≤ 0x1F) ∨
    (0x23 ≤ op.toNat ∧ op.toNat ≤ 0x27) ∨ op.toNat = 0x2F ∨ op.toNat = 0x36 ∨ op.toNat = 0x37 ∨
    op.toNat = 0x3E ∨ op.toNat = 0x3F ∨ 0x45 ≤ op.toNat

end Sys2Proof.Claim

section

open Sys2Proof Sys2Proof.Machine Sys2Proof.Claim

/-! ## Invocation, encoding, permission, results -/

/-- An agent invokes an operation: the step is exec of the decoded operation, by that agent; only that the ok(true) of a CONNECT
that finds the bus connected while TLOCK is held is returned later (R351; log 22); an operation that was not enabled is held by
the host or a producer (R13, R221; the schedule is the model's, log 5 and log 7); a fault of exec is the step's, and exec refuses
nothing. -/
def Obligations.StepRunsInvokedOperation : Prop :=
  ∀ (s : State) (a : Agent) (t : Transaction) (i : Instr) (rest : List Input),
    s.inputs = .invoke a t :: rest → s.blocked s.held a = false → decode t = .ok i → i.wellFormed = true →
    (∀ u, exec i { s with inputs := rest, agent := a } = .next u → u.result ≠ .notEnabled → ¬ NoOpWaits i u →
      step s = .next u) ∧
    (∀ u, exec i { s with inputs := rest, agent := a } = .next u → NoOpWaits i u → step s = .next (returnsLater u)) ∧
    (∀ u, exec i { s with inputs := rest, agent := a } = .next u → u.result = .notEnabled → a ≠ .dispatcher →
      step s = .next { u with held := u.held ++ [⟨a, t⟩] }) ∧
    (∀ u, exec i { s with inputs := rest, agent := a } = .next u → u.result = .notEnabled → a = .dispatcher →
      step s = .next u) ∧
    (∀ f, exec i { s with inputs := rest, agent := a } = .fault f → step s = .fault f) ∧
    (∀ r, exec i { s with inputs := rest, agent := a } ≠ .refused r)

/-- A producer with an operation or a SEND of its own not done holds its next one; a held operation is tried again and is held
no longer once it was enabled (R74, R221, R222; the model's choice, log 7; the return of a CONNECT, log 22). -/
def Obligations.HeldOperationsWaitAndRetry : Prop :=
  (∀ (s : State) (a : Agent) (t : Transaction) (rest : List Input),
    s.inputs = .invoke a t :: rest → s.blocked s.held a = true →
    step s = .next { s with inputs := rest, agent := a, result := .notEnabled, held := s.held ++ [⟨a, t⟩] }) ∧
  (∀ (s : State) (k : Nat) (a : Agent) (t : Transaction) (i : Instr) (rest : List Input) (u : State),
    s.inputs = .retry k :: rest → s.held[k]? = some ⟨a, t⟩ → s.blocked (s.held.take k) a = false → decode t = .ok i →
    exec i { s with inputs := rest, agent := a } = .next u →
    (u.result ≠ .notEnabled → ¬ NoOpWaits i u → step s = .next { u with held := u.held.eraseIdx k }) ∧
    (NoOpWaits i u → step s = .next { returnsLater u with held := u.held.eraseIdx k }) ∧
    (u.result = .notEnabled → step s = .next u))

/-- Words written out from R96 and R102 decode to the instructions they stand for. That the operand of CRC_BYTE is one byte
after the op number is the model's choice (log 3): R102 gives operands no bytes. -/
def Obligations.SampleWordsDecode : Prop :=
  decode (.wire [0x55#8, 0x01#8, 0x02#8, 0x03#8, 0x04#8, 0x37#8] 8 .control) = .ok (.move 0x01#8 0x02#8 0x37#8) ∧
  decode (.wire [0x55#8, 0x01#8, 0x02#8, 0x02#8, 0x03#8, 0x01#8, 0x01#8] 9 .direction) =
    .ok (.setdir 0x01#8 0x02#8 0x01#8) ∧
  decode (.wire [0x55#8, 0x00#8, 0x00#8, 0x02#8, 0x00#8, 0x02#8, 0x01#8, 0x02#8] 15 .programming) =
    .ok (.register 0x01#8 0x02#8) ∧
  decode (.wire [0x55#8, 0x01#8, 0x02#8, 0x01#8, 0xFE#8, 0x01#8] 8 .version) = .ok (.handshake 0x01#8 0x02#8) ∧
  decode (.op [0x02#8, 0x55#8]) = .ok (.crcByte 0x55#8) ∧
  decode (.op [0x29#8]) = .ok .dSleep ∧
  decode (.op [0x40#8]) = .ok .connect ∧
  decode (.op [0x00#8]) = .error (.unassignedOp 0x00#8)

/-- Every well-formed instruction is what its transaction decodes to, with every operand at every value (R96, R102; the operand
bytes of the operations are the model's choice, log 3). And every payload is the payload of the instruction it decodes to: it
has every constant byte of its row of R96, or it is a GENERIC one as it stands (R34, R98). -/
def Obligations.DecodeEncodeEveryInstr : Prop :=
  (∀ i : Instr, i.wellFormed = true → decode (encode i) = .ok i) ∧
  (∀ (p : List Byte) (n : Nat) (t : ChannelTag), ∃ i m g,
    decode (.wire p n t) = .ok i ∧ encode i = .wire p m g ∧ (kind p = .generic → i = .generic p n t))

/-- An op number with no row, or an operation of another agent's column, is refused with BAD_OPCODE (R104). The op number that
the record of a wire command has is the model's choice (log 6), and so is the reading of R102's column for a permanent
DISCONNECT (log 17). -/
def Obligations.UnassignedOrForbiddenOpRefused : Prop :=
  (∀ (s : State) (a : Agent) (op : Byte) (operands : List Byte) (rest : List Input),
    s.inputs = .invoke a (.op (op :: operands)) :: rest → s.blocked s.held a = false → Unassigned op →
    step s = .next (refusedWith { s with inputs := rest, agent := a } .badOpcode 13#8 [op])) ∧
  (∀ (i : Instr) (s : State), permitted i s.agent = false →
    exec i s = .next (refusedWith s .badOpcode 13#8 [opNumber i]))

/-- The permissions of R102 and R320, for each class of agents; an operation outside an agent's column is refused (R104). That a
permanent DISCONNECT is the dispatcher's and not the host's is the model's reading of "host; D_STOP (permanent)" (log 17), and
the op number in the record of a wire command is the model's choice (log 6). -/
def Obligations.AgentColumns : Prop :=
  (∀ (a : Agent) (b : Byte),
    (permitted .connect a = true ↔ a = .host) ∧ (permitted (.disconnect false) a = true ↔ a = .host) ∧
    (permitted (.disconnect true) a = true ↔ a = .dispatcher) ∧
    (permitted .dispose a = true ↔ a = .host) ∧ (permitted .crcInit a = true ↔ a = .host) ∧
    (permitted (.crcByte b) a = true ↔ a = .host) ∧ (permitted .crcRead a = true ↔ a = .host)) ∧
  (∀ (a : Agent) (o : SessionId) (x y z : Byte) (p : List Byte) (n : Nat) (t : ChannelTag) (g : Option ChannelTag)
    (r : PendingRequest), ∀ i ∈ [Instr.mkMove o x y z, .mkOpen o x y, .mkClose o x y, .mkStop o x y, .mkSetdir o x y z, .mkQpos o x y,
      .mkQstate o x y, .mkQdir o x y, .mkHandshake o x y, .mkRegister o x y, .mkGeneric o p n t, .enqueue r,
      .send o p n g], (permitted i a = true ↔ ∃ q, a = .producer q)) ∧
  (∀ (a : Agent) (r : PendingRequest) (buf p : List Byte) (c n : Nat) (hint : Option Nat),
    ∀ i ∈ [Instr.checksum p, .build p, .expLen p hint, .vBase buf c n, .vCrc buf c, .vAddr r buf, .vEcho r buf,
      .vRegack r buf, .vSuccess r buf c, .decPos r buf c, .decState r buf c, .decDir r buf c, .decVersion r buf c,
      .decRegack r buf c, .readStatus n, .uartEncode p], permitted i a = true) ∧
  (∀ (a : Agent) (r : PendingRequest) (buf : List Byte) (c n : Nat),
    ∀ i ∈ [Instr.dFetch, .dSleep, .dWake, .dAttempt, .dRetry, .dDeliver, .dStop, .decode r buf c, .exchange buf n],
      (permitted i a = true ↔ a = .dispatcher)) ∧
  (∀ (i : Instr) (s : State), permitted i s.agent = false → exec i s = .next (refusedWith s .badOpcode 13#8 [opNumber i]))

/-- A refused operation changes LOG, LAST_CAUSE and H only, and one that is not enabled changes nothing (R13, R301). -/
def Obligations.RefusalChangesOnlyTheRecord : Prop :=
  ∀ (i : Instr) (s t : State), exec i s = .next t →
    (∀ c, t.result = .refused c → ∃ code info, (c, code) ∈ [(Cause.badArgument, 11#8), (.disposed, 12#8), (.badOpcode, 13#8)] ∧
      t = refusedWith s c code info) ∧
    (t.result = .notEnabled → t = waiting s)

/-! ## The state as a whole -/

/-- The values R53 gives for reset. -/
def Obligations.ResetHoldsStatedValues : Prop :=
  let s := State.reset
  s.crcAcc = 0xFFFF#16 ∧ s.txb = [] ∧ s.rxb = [] ∧ s.rxCount = 0 ∧ s.queue = [] ∧ s.enqSeq = 0 ∧ s.cur = none ∧
    s.dstate = .idle ∧ s.attempt = 0 ∧ s.busState = .unconnected ∧ s.offlineReason = .none ∧ s.portOpen = false ∧
    s.tlock = .free ∧ s.disposed = false ∧ s.lastCause = 0#8 ∧ s.log = [] ∧ s.hist = []

/-- The dispatcher's first step after reset is D_SLEEP (R341), when no agent moves (the model's choice, log 7). -/
def Obligations.FirstStepIsSleep : Prop :=
  step State.reset = .next { State.reset with dstate := .sleep, agent := .dispatcher, result := .ok .unit }

/-- The state after reset meets the invariants. -/
def Obligations.ResetMeetsInvariants : Prop := Invariants State.reset ∧ FifoInv State.reset

/-- Every step keeps the invariants of the elements (R23 to R38, R264). -/
def Obligations.StepKeepsInvariants : Prop :=
  ∀ s t : State, Invariants s → step s = .next t → Invariants t

/-- Every step keeps the order of acceptance, dequeue and delivery (R73, R76, R232). -/
def Obligations.StepKeepsFifoOrder : Prop :=
  ∀ s t : State, Invariants s → FifoInv s → step s = .next t → FifoInv t

/-- Deliveries occur in increasing sequence number with none left out, and every accepted request is delivered, in flight or
queued (R232). -/
def Obligations.DeliveriesFollowAcceptance : Prop :=
  ∀ s : State, FifoInv s →
    (∃ k, k ≤ s.enqSeq ∧ deliverSeqs s.hist = (List.range k).map some) ∧
    (∀ n, n < s.enqSeq →
      ((deliverSeqs s.hist).count (some n) = 1 ∧ (deqSeqs s.hist).count (some n) = 1) ∨
      ((deliverSeqs s.hist).count (some n) = 0 ∧
        ((∃ r, s.cur = some r ∧ r.seq = some n) ∨ ∃ r ∈ s.queue, r.seq = some n)))

/-- H is only appended to, the parameters are fixed, ENQ_SEQ and LOG only grow, and DISPOSED and STOPPED stay
(R44, R340, R38, R37, R231). -/
def Obligations.StepOnlyAppendsHistory : Prop :=
  ∀ s t : State, step s = .next t →
    (∃ es, t.hist = s.hist ++ es) ∧ (∃ ls, t.log = s.log ++ ls) ∧ t.params = s.params ∧ s.enqSeq ≤ t.enqSeq ∧
    (s.disposed = true → t.disposed = true) ∧ (Invariants s → s.dstate = .stopped → t.dstate = .stopped)

/-- Every change of BUS_STATE is recorded as a Bus event with the new state and reason (R44). -/
def Obligations.BusChangesAreRecorded : Prop :=
  ∀ s t : State, Invariants s → step s = .next t → t.busState ≠ s.busState →
    ∃ es, t.hist = s.hist ++ es ∧ Event.bus t.busState t.offlineReason ∈ es

/-- Which instructions write CRC_ACC, TXB, RXB, RX_COUNT, Q and ENQ_SEQ, and CUR (R22 to R28, R223), and that the buffers are
written at an exchange of CUR only (R344). EXCHANGE, DECODE and a permanent DISCONNECT are D_ATTEMPT, D_DELIVER and D_STOP
under their own op numbers (the model's reading, log 17 and log 18). -/
def Obligations.ElementsHaveTheirWriters : Prop :=
  ∀ (i : Instr) (s t : State), exec i s = .next t →
    (i ≠ .crcInit → (∀ b, i ≠ .crcByte b) → t.crcAcc = s.crcAcc) ∧
    ((∀ f n, i ≠ .exchange f n) → i ≠ .dAttempt → t.txb = s.txb ∧ t.rxb = s.rxb ∧ t.rxCount = s.rxCount) ∧
    ((t.txb ≠ s.txb ∨ t.rxb ≠ s.rxb ∨ t.rxCount ≠ s.rxCount) → s.dstate = .exch ∧ s.cur ≠ none) ∧
    (i ≠ .dFetch → i ≠ .dStop → i ≠ .disconnect true → ∃ rs, t.queue = s.queue ++ rs) ∧
    (invokedBy i ≠ .producer → i ≠ .dFetch → i ≠ .dStop → i ≠ .disconnect true → t.queue = s.queue) ∧
    (invokedBy i ≠ .producer → t.enqSeq = s.enqSeq) ∧
    (i ≠ .dFetch → i ≠ .dDeliver → (∀ r buf count, i ≠ .decode r buf count) → t.cur = s.cur)

/-! ## Checksum codec -/

/-- The functions of R130 to R133. -/
def Obligations.CrcFunctionsAsDefined : Prop :=
  (∀ c : U16, crcBit c = if c.getLsbD 0 = true then (c >>> 1) ^^^ 0xA001#16 else c >>> 1) ∧
  (∀ (c : U16) (b : Byte), crcByte c b =
    crcBit (crcBit (crcBit (crcBit (crcBit (crcBit (crcBit (crcBit (c ^^^ b.setWidth 16))))))))) ∧
  crc16 [] = 0xFFFF#16 ∧
  (∀ (bs : List Byte) (b : Byte), crc16 (bs ++ [b]) = crcByte (crc16 bs) b) ∧
  crc16 [0x31#8, 0x32#8, 0x33#8, 0x34#8, 0x35#8, 0x36#8, 0x37#8, 0x38#8, 0x39#8] = 0x4B37#16 ∧
  (∀ c : U16, trailer c = crcBytes c)

/-- CRC_INIT (R134) and CRC_READ (R136). -/
def Obligations.CrcInitAndRead : Prop :=
  ∀ s : State, opNumber .crcInit = 0x01#8 ∧ opNumber .crcRead = 0x03#8 ∧
    (s.agent = .host →
      exec .crcInit s = .next { s with crcAcc := 0xFFFF#16, result := .ok .unit } ∧
      exec .crcRead s = .next (answered s (.word s.crcAcc))) ∧
    (s.agent ≠ .host →
      exec .crcInit s = .next (refusedWith s .badOpcode 13#8 [0x01#8]) ∧
      exec .crcRead s = .next (refusedWith s .badOpcode 13#8 [0x03#8])) ∧
    exec .crcRead State.reset = .next (answered State.reset (.word 0xFFFF#16))

/-- CRC_BYTE (R135): eight shift steps from any accumulator, and every value is a possible result. -/
def Obligations.CrcByteFoldsOneByte : Prop :=
  (∀ (s : State) (b : Byte), s.agent = .host →
    exec (.crcByte b) s = .next { s with crcAcc := crcByte s.crcAcc b, result := .ok .unit }) ∧
  (∀ b : Byte, opNumber (.crcByte b) = 0x02#8) ∧
  crcByte 0xFFFF#16 0x00#8 = 0x40BF#16 ∧ crcByte 0xFFFF#16 0xFF#8 = 0x00FF#16 ∧ crcByte 0x00FF#16 0xFF#8 = 0x0000#16 ∧
  crcByte 0xFFFF#16 0x55#8 = 0x7F7F#16 ∧
  (∀ v : U16, ∃ (c : U16) (b : Byte), crcByte c b = v)

/-- CHECKSUM (R137): any agent, at most P_TX_MAX bytes, CRC_ACC untouched. -/
def Obligations.ChecksumReturnsCrc16 : Prop :=
  ∀ (s : State) (bs : List Byte), opNumber (.checksum bs) = 0x04#8 ∧
    (bs.length ≤ 255 → exec (.checksum bs) s = .next (answered s (.word (crc16 bs)))) ∧
    (255 < bs.length → exec (.checksum bs) s = .next (refusedWith s .badArgument 11#8 bs)) ∧
    exec (.checksum []) s = .next (answered s (.word 0xFFFF#16))

/-- The table form of one byte (R138). -/
def Obligations.CrcTableForm : Prop :=
  ∀ (c : U16) (b : Byte), crcByte c b = (c >>> 8) ^^^ crcByte 0x0000#16 ((c ^^^ b.setWidth 16).setWidth 8)

/-- The properties of R139: the residue of a frame is zero, and two CRCs of equal length differ by the CRC of the difference
from a zero start. -/
def Obligations.CrcResidueAndDifference : Prop :=
  crc16 [] = 0xFFFF#16 ∧
  (∀ p : List Byte, crc16 (p ++ crcBytes (crc16 p)) = 0x0000#16) ∧
  (∀ xs ys : List Byte, xs.length = ys.length →
    crc16 xs ^^^ crc16 ys = (List.zipWith (fun x y => x ^^^ y) xs ys).foldl crcByte 0x0000#16) ∧
  (∀ (s t : State) (bs : List Byte), bs.length ≤ 255 →
    exec (.checksum bs) s = .next (answered s (.word (crc16 bs))) ∧
    exec (.checksum bs) t = .next (answered t (.word (crc16 bs))))

/-- CRC_INIT, one CRC_BYTE for each byte, and CRC_READ give CHECKSUM's value (R134 to R137). -/
def Obligations.IncrementalCrcIsChecksum : Prop :=
  ∀ (s : State) (bs : List Byte), s.agent = .host →
    execAll (.crcInit :: (bs.map Instr.crcByte ++ [.crcRead])) s =
      .next { s with crcAcc := crc16 bs, result := .ok (.word (crc16 bs)) }

/-! ## Frame builder -/

/-- BUILD (R150), with what R151 says of its result. -/
def Obligations.BuildAppendsCrc : Prop :=
  ∀ (s : State) (p : List Byte), opNumber (.build p) = 0x10#8 ∧
    (p.length ≤ 253 → ∃ f, exec (.build p) s = .next (answered s (.bytes f)) ∧ f = p ++ crcBytes (crc16 p) ∧
      f.length = p.length + 2 ∧ f.take p.length = p) ∧
    (253 < p.length → exec (.build p) s = .next (refusedWith s .badArgument 11#8 p)) ∧
    exec (.build []) s = .next (answered s (.bytes [0xFF#8, 0xFF#8]))

/-- EXP_LEN (R152): the table by kind, and the length of the frame for every kind but REGISTER and GENERIC. -/
def Obligations.ExpectedLengthTable : Prop :=
  ∀ (s : State) (p : List Byte) (hint : Option Nat), opNumber (.expLen p hint) = 0x11#8 ∧
    exec (.expLen p hint) s = .next (answered s (.nat
      (match kind p with
      | .move => 8
      | .openCmd | .closeCmd | .stopCmd => 7
      | .setdir => 9
      | .qpos | .qstate | .qdir | .handshake => 8
      | .register => 15
      | .generic => hint.getD (p.length + 2)))) ∧
    (kind p ≠ .register → kind p ≠ .generic → exec (.expLen p hint) s = .next (answered s (.nat (p.length + 2))))

/-- MK_MOVE (R154) and MK_SETDIR (R158): the argument out of range is refused. -/
def Obligations.CheckedConstructors : Prop :=
  ∀ (s : State) (q o : SessionId) (a0 a1 x : Byte), s.agent = .producer q →
    opNumber (.mkMove o a0 a1 x) = 0x12#8 ∧ opNumber (.mkSetdir o a0 a1 x) = 0x16#8 ∧
    (x.toNat ≤ 100 → exec (.mkMove o a0 a1 x) s =
      .next (answered s (.request (request o [0x55#8, a0, a1, 0x03#8, 0x04#8, x] 8 .control)))) ∧
    (100 < x.toNat → exec (.mkMove o a0 a1 x) s = .next (refusedWith s .badArgument 11#8 [x])) ∧
    (x.toNat ≤ 1 → exec (.mkSetdir o a0 a1 x) s =
      .next (answered s (.request (request o [0x55#8, a0, a1, 0x02#8, 0x03#8, 0x01#8, x] 9 .direction)))) ∧
    (1 < x.toNat → exec (.mkSetdir o a0 a1 x) s = .next (refusedWith s .badArgument 11#8 [x]))

/-- The constructors without a range (R155 to R157, R159 to R163). -/
def Obligations.PlainConstructors : Prop :=
  ∀ (s : State) (q o : SessionId) (a0 a1 : Byte), s.agent = .producer q →
    ∀ row ∈ [
      (Instr.mkOpen o a0 a1, 0x13#8, request o [0x55#8, a0, a1, 0x03#8, 0x01#8] 7 .control),
      (.mkClose o a0 a1, 0x14#8, request o [0x55#8, a0, a1, 0x03#8, 0x02#8] 7 .control),
      (.mkStop o a0 a1, 0x15#8, request o [0x55#8, a0, a1, 0x03#8, 0x03#8] 7 .control),
      (.mkQpos o a0 a1, 0x17#8, request o [0x55#8, a0, a1, 0x01#8, 0x02#8, 0x01#8] 8 .position),
      (.mkQstate o a0 a1, 0x18#8, request o [0x55#8, a0, a1, 0x01#8, 0x05#8, 0x01#8] 8 .state),
      (.mkQdir o a0 a1, 0x19#8, request o [0x55#8, a0, a1, 0x01#8, 0x03#8, 0x01#8] 8 .direction),
      (.mkHandshake o a0 a1, 0x1A#8, request o [0x55#8, a0, a1, 0x01#8, 0xFE#8, 0x01#8] 8 .version),
      (.mkRegister o a0 a1, 0x1B#8,
        request o [0x55#8, 0x00#8, 0x00#8, 0x02#8, 0x00#8, 0x02#8, a0, a1] 15 .programming)],
      opNumber row.1 = row.2.1 ∧ exec row.1 s = .next (answered s (.request row.2.2))

/-- Every constructor's payload is of the constructor's own kind, with that kind's length (R167). -/
def Obligations.ConstructorsMakeTheirKind : Prop :=
  ∀ (s : State) (q o : SessionId) (a0 a1 x : Byte), s.agent = .producer q →
    ∀ row ∈ [(Instr.mkMove o a0 a1 x, Kind.move), (.mkOpen o a0 a1, .openCmd), (.mkClose o a0 a1, .closeCmd),
      (.mkStop o a0 a1, .stopCmd), (.mkSetdir o a0 a1 x, .setdir), (.mkQpos o a0 a1, .qpos), (.mkQstate o a0 a1, .qstate),
      (.mkQdir o a0 a1, .qdir), (.mkHandshake o a0 a1, .handshake), (.mkRegister o a0 a1, .register)],
      ∀ t r, exec row.1 s = .next t → t.result = .ok (.request r) →
        kind r.payload = row.2 ∧ r.expLen = expLenOf r.payload none

/-- MK_GENERIC (R164). -/
def Obligations.GenericConstructor : Prop :=
  ∀ (s : State) (q o : SessionId) (p : List Byte) (n : Nat) (t : ChannelTag), s.agent = .producer q →
    opNumber (.mkGeneric o p n t) = 0x1C#8 ∧
    ((253 < p.length ∨ n = 0 ∨ 255 < n) → exec (.mkGeneric o p n t) s = .next (refusedWith s .badArgument 11#8 p)) ∧
    ((kind p ≠ .generic ∧ n ≠ expLenOf p none) → exec (.mkGeneric o p n t) s = .next (refusedWith s .badArgument 11#8 p)) ∧
    (p.length ≤ 253 → 1 ≤ n → n ≤ 255 → (kind p ≠ .generic → n = expLenOf p none) →
      exec (.mkGeneric o p n t) s = .next (answered s (.request (request o p n t))))

/-- The wire commands of a session are ISSUE.<KIND>: the constructor, then ENQUEUE (R106, R237; the owner is the session that
gives the command, the model's reading, log 6). -/
def Obligations.WireCommandsEnqueue : Prop :=
  (∀ a0 a1 : Byte,
    IssuesRequest (.openCmd a0 a1) (fun q => request q [0x55#8, a0, a1, 0x03#8, 0x01#8] 7 .control) ∧
    IssuesRequest (.closeCmd a0 a1) (fun q => request q [0x55#8, a0, a1, 0x03#8, 0x02#8] 7 .control) ∧
    IssuesRequest (.stopCmd a0 a1) (fun q => request q [0x55#8, a0, a1, 0x03#8, 0x03#8] 7 .control) ∧
    IssuesRequest (.qpos a0 a1) (fun q => request q [0x55#8, a0, a1, 0x01#8, 0x02#8, 0x01#8] 8 .position) ∧
    IssuesRequest (.qstate a0 a1) (fun q => request q [0x55#8, a0, a1, 0x01#8, 0x05#8, 0x01#8] 8 .state) ∧
    IssuesRequest (.qdir a0 a1) (fun q => request q [0x55#8, a0, a1, 0x01#8, 0x03#8, 0x01#8] 8 .direction) ∧
    IssuesRequest (.handshake a0 a1) (fun q => request q [0x55#8, a0, a1, 0x01#8, 0xFE#8, 0x01#8] 8 .version) ∧
    IssuesRequest (.register a0 a1)
      (fun q => request q [0x55#8, 0x00#8, 0x00#8, 0x02#8, 0x00#8, 0x02#8, a0, a1] 15 .programming)) ∧
  (∀ a0 a1 x : Byte,
    (x.toNat ≤ 100 → IssuesRequest (.move a0 a1 x)
      (fun q => request q [0x55#8, a0, a1, 0x03#8, 0x04#8, x] 8 .control)) ∧
    (x.toNat ≤ 1 → IssuesRequest (.setdir a0 a1 x)
      (fun q => request q [0x55#8, a0, a1, 0x02#8, 0x03#8, 0x01#8, x] 9 .direction)) ∧
    (∀ (s : State) (q : SessionId), s.agent = .producer q →
      (100 < x.toNat → exec (.move a0 a1 x) s = .next (refusedWith s .badArgument 11#8 [x])) ∧
      (1 < x.toNat → exec (.setdir a0 a1 x) s = .next (refusedWith s .badArgument 11#8 [x])))) ∧
  (∀ (p : List Byte) (n : Nat) (t : ChannelTag), kind p = .generic → p.length ≤ 253 → 1 ≤ n → n ≤ 255 →
    IssuesRequest (.generic p n t) (fun q => request q p n t))

/-! ## Queue and producers -/

/-- ENQUEUE (R220, R307): the checks in their order, then the request at the tail with the next sequence number. -/
def Obligations.EnqueueAppendsNumberedRequest : Prop :=
  ∀ (s : State) (q : SessionId) (r : PendingRequest), s.agent = .producer q →
    opNumber (.enqueue r) = 0x20#8 ∧
    (s.disposed = true → exec (.enqueue r) s = .next (refusedWith s .disposed 12#8 r.payload)) ∧
    (s.disposed = false → ¬ LengthsOk r → exec (.enqueue r) s = .next (refusedWith s .badArgument 11#8 r.payload)) ∧
    (s.disposed = false → LengthsOk r → Full s → exec (.enqueue r) s = .next (waiting s)) ∧
    (s.disposed = false → LengthsOk r → Room s →
      exec (.enqueue r) s = .next { accepted s r with result := .ok (.seq s.enqSeq) })

/-- A full queue (R221): the producer holds its ENQUEUE and the same step is taken when there is room; an unbounded queue
takes every request before DISPOSE. -/
def Obligations.FullQueueHoldsTheProducer : Prop :=
  ∀ (s : State) (q : SessionId) (t : Transaction) (r : PendingRequest) (rest : List Input),
    decode t = .ok (.enqueue r) → LengthsOk r → s.disposed = false →
    (s.inputs = .invoke (.producer q) t :: rest → s.blocked s.held (.producer q) = false → Full s →
      step s = .next
        { s with inputs := rest, agent := .producer q, result := .notEnabled, held := s.held ++ [⟨.producer q, t⟩] }) ∧
    (∀ k, s.inputs = .retry k :: rest → s.held[k]? = some ⟨.producer q, t⟩ →
      s.blocked (s.held.take k) (.producer q) = false → Room s →
      step s = .next
        { accepted s r with
          inputs := rest, agent := .producer q, result := .ok (.seq s.enqSeq), held := s.held.eraseIdx k }) ∧
    (s.params.queueDepth = none → s.agent = .producer q →
      exec (.enqueue r) s = .next { accepted s r with result := .ok (.seq s.enqSeq) })

/-- SEND, its first step (R222, in the check order of R307: log 12): MK_GENERIC's checks, then the request is queued, with
target OTHER when the caller gives none, and the caller waits (log 19). -/
def Obligations.SendQueuesItsRequest : Prop :=
  ∀ (s : State) (q o : SessionId) (p : List Byte) (n : Nat) (t : Option ChannelTag), s.agent = .producer q →
    let r := request o p n (match t with | some g => g | none => .other)
    opNumber (.send o p n t) = 0x21#8 ∧
    (s.disposed = true → exec (.send o p n t) s = .next (refusedWith s .disposed 12#8 p)) ∧
    (s.disposed = false → (¬ LengthsOk r ∨ (kind p ≠ .generic ∧ n ≠ expLenOf p none)) →
      exec (.send o p n t) s = .next (refusedWith s .badArgument 11#8 p)) ∧
    (s.disposed = false → LengthsOk r → (kind p ≠ .generic → n = expLenOf p none) → Full s →
      exec (.send o p n t) s = .next (waiting s)) ∧
    (s.disposed = false → LengthsOk r → (kind p ≠ .generic → n = expLenOf p none) → Room s →
      exec (.send o p n t) s =
        .next { accepted s r with sends := s.sends ++ [⟨.producer q, o, s.enqSeq⟩], result := .underWay })

/-- SEND, its last step (R222): it returns the delivery of its request, which it finds in H, and is not enabled before
(log 19). -/
def Obligations.SendReturnsItsDelivery : Prop :=
  ∀ (s : State) (k : Nat) (w : SendWait) (rest : List Input), s.inputs = .reply k :: rest → s.sends[k]? = some w →
    (∀ (before later : List Event) (buf : List Byte) (count : Nat) (success : Bool),
      s.hist = before ++ .deliver w.owner (some w.seq) buf count success :: later →
      (∀ b c x, Event.deliver w.owner (some w.seq) b c x ∉ before) →
      step s = .next
        { s with inputs := rest, agent := w.agent, sends := s.sends.eraseIdx k,
                 result := .ok (.answer buf count success) }) ∧
    ((∀ b c x, Event.deliver w.owner (some w.seq) b c x ∉ s.hist) →
      step s = .next { s with inputs := rest, agent := w.agent, result := .notEnabled })

/-- DISPOSE (R233): it sets DISPOSED and records it, once. -/
def Obligations.DisposeSetsDisposed : Prop :=
  ∀ s : State, s.agent = .host → opNumber .dispose = 0x22#8 ∧
    (s.disposed = false →
      exec .dispose s = .next { s with disposed := true, hist := s.hist ++ [.disposed], result := .ok .unit }) ∧
    (s.disposed = true → exec .dispose s = .next (answered s .unit))

/-- DISPOSED is set by DISPOSE only, is never cleared, and while it is set ENQUEUE, SEND and CONNECT are refused with DISPOSED
(R37); that SEND is so refused also where MK_GENERIC's checks fail is the model's choice (log 12). -/
def Obligations.DisposedIsForever : Prop :=
  State.reset.disposed = false ∧
  (∀ s t : State, step s = .next t → s.disposed = true → t.disposed = true) ∧
  (∀ (i : Instr) (s t : State), exec i s = .next t → s.disposed = false → t.disposed = true → i = .dispose) ∧
  (∀ (s : State) (i : Instr), s.disposed = true → permitted i s.agent = true →
    ((∃ r, i = .enqueue r) ∨ (∃ o p n t, i = .send o p n t) ∨ i = .connect) →
    ∃ info, exec i s = .next (refusedWith s .disposed 12#8 info))

/-! ## Dispatcher -/

/-- D_FETCH (R224). -/
def Obligations.FetchPopsTheOldest : Prop :=
  ∀ s : State, s.agent = .dispatcher → opNumber .dFetch = 0x28#8 ∧
    (∀ r rest, s.dstate = .idle → s.disposed = false → s.queue = r :: rest →
      exec .dFetch s = .next
        { s with
          queue := rest, cur := some r, attempt := 0, dstate := .exch, hist := s.hist ++ [.deq r.seq],
          result := .ok .unit }) ∧
    ((s.dstate ≠ .idle ∨ s.disposed = true ∨ s.queue = []) → exec .dFetch s = .next (waiting s))

/-- D_SLEEP (R225) and D_WAKE (R226). That D_WAKE is enabled without a wait is the model's choice (log 21): R226 waits
P_DISPATCH_TICK_MS, and R360 gives the model no clock. -/
def Obligations.SleepAndWake : Prop :=
  ∀ s : State, s.agent = .dispatcher → opNumber .dSleep = 0x29#8 ∧ opNumber .dWake = 0x2A#8 ∧
    (s.dstate = .idle → s.disposed = false → s.queue = [] →
      exec .dSleep s = .next { s with dstate := .sleep, result := .ok .unit }) ∧
    ((s.dstate ≠ .idle ∨ s.disposed = true ∨ s.queue ≠ []) → exec .dSleep s = .next (waiting s)) ∧
    (s.dstate = .sleep → s.disposed = false → exec .dWake s = .next { s with dstate := .idle, result := .ok .unit }) ∧
    ((s.dstate ≠ .sleep ∨ s.disposed = true) → exec .dWake s = .next (waiting s))

/-- D_ATTEMPT, its first step (R227, R270, R271): the frame is built, written and sent; on a bus that is not connected the
attempt fails at once. -/
def Obligations.AttemptSendsTheFrame : Prop :=
  ∀ (s : State) (r : PendingRequest), s.agent = .dispatcher → s.dstate = .exch → s.cur = some r →
    r.payload.length ≤ 253 → opNumber .dAttempt = 0x2B#8 ∧
    (s.tlock ≠ .free → exec .dAttempt s = .next (waiting s)) ∧
    (s.tlock = .free → Online s →
      exec .dAttempt s = .next
        { s with
          tlock := .heldExchange
          xop := .exchange r.expLen true
          txb := r.payload ++ crcBytes (crc16 r.payload)
          hist := s.hist ++ [.tx (r.payload ++ crcBytes (crc16 r.payload))]
          result := .underWay }) ∧
    (s.tlock = .free → ¬ Online s → s.attempt + 1 < s.params.maxAttempts → s.disposed = false →
      exec .dAttempt s = .next
        { s with
          rxb := blank r.expLen, rxCount := 0, hist := s.hist ++ [.rx (blank r.expLen) 0],
          attempt := s.attempt + 1, dstate := .backoff, result := .ok .unit }) ∧
    (s.tlock = .free → ¬ Online s → (s.params.maxAttempts ≤ s.attempt + 1 ∨ s.disposed = true) →
      exec .dAttempt s = .next
        { s with
          rxb := blank r.expLen, rxCount := 0, attempt := s.attempt + 1, dstate := .deliver,
          lastCause := 9#8, log := s.log ++ [⟨9#8, r.seq, []⟩],
          hist := s.hist ++ [.rx (blank r.expLen) 0, .logged 9#8 r.seq []], result := .ok .unit })

/-- D_ATTEMPT, its last step (R227, R270, R272, R273): the drawn answer, then the retry decision. -/
def Obligations.AttemptDecidesRetry : Prop :=
  ∀ (s d : State) (r : PendingRequest) (n : Nat) (a : LineAnswer) (rest : List Input),
    s.inputs = .finish :: rest → s.xop = .exchange n true → s.cur = some r →
    DrawsLine { s with inputs := rest, agent := .dispatcher } a d →
    DecidesRetry s r (a = .fault) { exchanged d n r.seq a with attempt := s.attempt + 1, result := .ok .unit } (step s)

/-- D_RETRY (R228). That it is enabled without the wait of P_BACKOFF_MS is the model's choice (log 21; R360). -/
def Obligations.RetryUnlessDisposed : Prop :=
  ∀ s : State, s.agent = .dispatcher → opNumber .dRetry = 0x2C#8 ∧
    (s.dstate = .backoff → s.disposed = false → exec .dRetry s = .next { s with dstate := .exch, result := .ok .unit }) ∧
    (∀ r, s.dstate = .backoff → s.disposed = true → s.cur = some r →
      exec .dRetry s = .next { recorded s 9#8 r.seq [] with dstate := .deliver, result := .ok .unit }) ∧
    (s.dstate ≠ .backoff → exec .dRetry s = .next (waiting s))

/-- D_DELIVER (R229, R200): the Deliver event with the success bit, then the decoder's event, and the request is dropped. -/
def Obligations.DeliverRoutesBack : Prop :=
  ∀ (s : State) (r : PendingRequest), s.agent = .dispatcher → s.dstate = .deliver → s.cur = some r →
    opNumber .dDeliver = 0x2D#8 ∧
    (¬ ReadsOutside s.params r s.rxb s.rxCount →
      ∃ (success : Bool) (d : Decoded), (success = true ↔ Success s.params r s.rxb s.rxCount) ∧
        AnswerOf s.params r s.rxb s.rxCount d ∧
        exec .dDeliver s = .next
          { s with
            cur := none
            attempt := 0
            dstate := .idle
            hist := s.hist ++ (.deliver r.owner r.seq s.rxb s.rxCount success :: eventsOf r d)
            result := .ok .unit }) ∧
    (ReadsOutside s.params r s.rxb s.rxCount → exec .dDeliver s = .fault .bufferRange)

/-- D_STOP (R231): every queued request is delivered with zeros and no success, and the port is closed; STOPPED has no
outgoing transition, and takes no further step (R29): that so EXCHANGE, DECODE and a permanent DISCONNECT of the dispatcher are
not enabled there is the model's reading of these op numbers (log 17, log 18). -/
def Obligations.StopDeliversTheQueue : Prop :=
  ∀ s : State, s.agent = .dispatcher → opNumber .dStop = 0x2E#8 ∧
    (MayStop s → exec .dStop s = .next (stopped s)) ∧
    (¬ MayStop s → exec .dStop s = .next (waiting s)) ∧
    (s.dstate = .stopped → (∀ i ∈ transitions, exec i s = .next (waiting s)) ∧
      exec (.disconnect true) s = .next (waiting s) ∧
      (∀ r buf count, exec (.decode r buf count) s = .next (waiting s)) ∧
      (∀ f n, f.length ≤ 255 → 1 ≤ n → n ≤ 255 → exec (.exchange f n) s = .next (waiting s)))

/-- At most one transition of the dispatcher is enabled (R240), and before STOPPED one is, once TLOCK is free (R230). A move of
the dispatcher is exec of the one that is enabled, and not enabled where none is, as in STOPPED. That D_WAKE and D_RETRY are
enabled at once is the model's choice (log 21; R230 has "or becomes enabled after a bounded wait", R360 gives the model no
clock); wasEnabled also counts the fault of D_DELIVER on a hand-built request (log 15); the move is the model's (log 7). -/
def Obligations.DispatcherHasOneTransition : Prop :=
  (∀ s : State, s.agent = .dispatcher →
    (∀ i ∈ transitions, ∀ j ∈ transitions, wasEnabled (exec i s) = true → wasEnabled (exec j s) = true → i = j) ∧
    (Invariants s → s.dstate ≠ .stopped → s.tlock = .free → ∃ i ∈ transitions, wasEnabled (exec i s) = true)) ∧
  (∀ (s : State) (rest : List Input), s.inputs = .dispatch :: rest →
    let d : State := { s with inputs := rest, agent := .dispatcher }
    (∀ i ∈ transitions, wasEnabled (exec i d) = true → step s = exec i d) ∧
    ((∀ i ∈ transitions, wasEnabled (exec i d) = false) → step s = .next (waiting d)) ∧
    (s.dstate = .stopped → step s = .next (waiting d)))

/-! ## Frame parser -/

/-- The validators (R180 to R184, R196): a Boolean of the rule's condition, and no other change. -/
def Obligations.ValidatorsAnswer : Prop :=
  ∀ (s : State) (r : PendingRequest) (buf : List Byte) (count n : Nat),
    opNumber (.vBase buf count n) = 0x30#8 ∧ opNumber (.vCrc buf count) = 0x31#8 ∧ opNumber (.vAddr r buf) = 0x32#8 ∧
    opNumber (.vEcho r buf) = 0x33#8 ∧ opNumber (.vRegack r buf) = 0x34#8 ∧ opNumber (.vSuccess r buf count) = 0x35#8 ∧
    AnswersWhether (.vBase buf count n) s (BaseValid s.params buf count n) ∧
    AnswersWhether (.vCrc buf count) s (TrailerOk buf count) ∧
    AnswersWhether (.vAddr r buf) s (AddressOk r buf) ∧
    AnswersWhether (.vEcho r buf) s (EchoOk r buf) ∧
    AnswersWhether (.vRegack r buf) s (RegisterOk r buf) ∧
    AnswersWhether (.vSuccess r buf count) s (Success s.params r buf count)

/-- V_CRC is the comparison of the last two bytes with the CRC of the bytes before them (R181). -/
def Obligations.TrailerCheckComparesLastBytes : Prop :=
  ∀ (s : State) (body : List Byte) (lo hi : Byte), 1 ≤ body.length →
    exec (.vCrc (body ++ [lo, hi]) (body.length + 2)) s =
      .next (answered s (.bool (decide (crc16 body = lo.setWidth 16 ||| (hi.setWidth 16 <<< 8)))))

/-- For the echo kinds V_ECHO implies V_ADDR (R183), and success is what R196 says for each class of kinds. -/
def Obligations.SuccessByClass : Prop :=
  ∀ (ps : Params) (r : PendingRequest) (buf : List Byte) (count : Nat),
    (EchoKind (kind r.payload) → vEcho r buf = true → vAddr r buf = true) ∧
    (QueryKind (kind r.payload) →
      (vSuccess ps r buf count = true ↔ BaseValid ps buf count r.expLen ∧ AddressOk r buf)) ∧
    (EchoKind (kind r.payload) →
      (vSuccess ps r buf count = true ↔ BaseValid ps buf count r.expLen ∧ EchoOk r buf)) ∧
    (kind r.payload = .register →
      (vSuccess ps r buf count = true ↔ BaseValid ps buf count r.expLen ∧ RegisterOk r buf)) ∧
    (kind r.payload = .generic → (vSuccess ps r buf count = true ↔ BaseValid ps buf count r.expLen))

/-- The decoders of the query answers: DEC_POS (R185), DEC_STATE (R186), DEC_DIR (R187) and DEC_VERSION (R188). -/
def Obligations.QueryDecodersAnswer : Prop :=
  (∀ r buf count, opNumber (.decPos r buf count) = 0x38#8 ∧ opNumber (.decState r buf count) = 0x39#8 ∧
    opNumber (.decDir r buf count) = 0x3A#8 ∧ opNumber (.decVersion r buf count) = 0x3B#8) ∧
  DecoderAnswers .decPos .qpos PositionValue ∧
  DecoderAnswers .decState .qstate (fun _ => MotionValue) ∧
  DecoderAnswers .decDir .qdir (fun _ => DirectionValue) ∧
  DecoderAnswers .decVersion .handshake (fun _ => VersionValue)

/-- DEC_REGACK (R189). -/
def Obligations.RegistrationDecoder : Prop :=
  ∀ (s : State) (r : PendingRequest) (buf : List Byte) (count : Nat),
    opNumber (.decRegack r buf count) = 0x3C#8 ∧
    (kind r.payload ≠ .register →
      ∃ info, exec (.decRegack r buf count) s = .next (refusedWith s .badArgument 11#8 info)) ∧
    (kind r.payload = .register →
      ∃ d, RegisterAnswer s.params r buf count d ∧ exec (.decRegack r buf count) s = .next (answered s (.decoded d)))

/-- DECODE (R200), invoked by the dispatcher under its own op number. That it is then the route-back of CUR's response, in the
same atomic step as the delivery (R229), and not enabled otherwise, is the model's reading of "dispatcher only (at route-back)"
(R102; log 18). -/
def Obligations.DecodeRecordsItsEvent : Prop :=
  ∀ (s : State) (r : PendingRequest) (buf : List Byte) (count : Nat), s.agent = .dispatcher →
    opNumber (.decode r buf count) = 0x3D#8 ∧
    (AtRouteBack s r buf count → ¬ ReadsOutside s.params r buf count →
      ∃ (success : Bool) (d : Decoded), (success = true ↔ Success s.params r buf count) ∧
        AnswerOf s.params r buf count d ∧
        exec (.decode r buf count) s = .next
          { s with
            cur := none
            attempt := 0
            dstate := .idle
            hist := s.hist ++ (.deliver r.owner r.seq buf count success :: eventsOf r d)
            result := .ok (.decoded d) }) ∧
    (AtRouteBack s r buf count → ReadsOutside s.params r buf count →
      exec (.decode r buf count) s = .fault .bufferRange) ∧
    (¬ AtRouteBack s r buf count → exec (.decode r buf count) s = .next (waiting s))

/-- The bytes the parser never reads (R192), while P_CHECK_RX_CRC is false: all but 0, 1, 2 and 5 of a query answer, all but
0, 8 and 9 of a registration answer, all but the repeated payload of an echo answer, and all but byte 0 of any other. DECODE
runs at route-back (log 18). -/
def Obligations.DecodeIgnoresUnreadBytes : Prop :=
  ∀ (s : State) (r : PendingRequest) (buf other : List Byte) (count : Nat),
    s.params.checkRxCrc = false → buf.length = other.length →
    (QueryKind (kind r.payload) → (∀ k ∈ [0, 1, 2, 5], buf[k]? = other[k]?) → SameParse s r buf other count) ∧
    (kind r.payload = .register → (∀ k ∈ [0, 8, 9], buf[k]? = other[k]?) → SameParse s r buf other count) ∧
    (EchoKind (kind r.payload) → buf.take r.payload.length = other.take r.payload.length →
      SameParse s r buf other count) ∧
    (kind r.payload = .generic → buf[0]? = other[0]? → SameParse s r buf other count)

/-- An Emit goes to the owner of the request, and only for an answer that carries the request's address where the kind is an
addressed one (R193). -/
def Obligations.EmitOnlyToTheOwner : Prop :=
  (∀ (s t : State) (r : PendingRequest) (buf : List Byte) (count : Nat), exec (.decode r buf count) s = .next t →
    ∃ es, t.hist = s.hist ++ es ∧ ∀ o g v, Event.emitted o g v ∈ es → o = r.owner ∧ AddressOk r buf) ∧
  (∀ s t : State, exec .dDeliver s = .next t →
    ∃ es, t.hist = s.hist ++ es ∧ ∀ o g v, Event.emitted o g v ∈ es →
      ∃ r, s.cur = some r ∧ o = r.owner ∧ AddressOk r s.rxb)

/-! ## Serial transport -/

/-- UART_ENCODE (R260): start bit 0, the eight bits of each byte least significant first, stop bit 1. -/
def Obligations.UartCharacters : Prop :=
  ∀ (s : State) (bs : List Byte), opNumber (.uartEncode bs) = 0x44#8 ∧
    ∃ wave, exec (.uartEncode bs) s = .next (answered s (.bits wave)) ∧ wave.length = 10 * bs.length ∧
      ∀ (k : Nat) (b : Byte), bs[k]? = some b →
        wave[10 * k]? = some false ∧ wave[10 * k + 9]? = some true ∧
        ∀ j, j < 8 → wave[10 * k + 1 + j]? = some (b.getLsbD j)

/-- CONNECT, step C1 (R266), and its no-op on a connected bus (R267), which comes before TLOCK is required. Issued while TLOCK is
held the no-op is decided in C1, changes nothing, and returns its ok(true) when TLOCK is free again (R264 item 2, R351): how the
four rules go together is the model's reading (log 22). -/
def Obligations.ConnectBegins : Prop :=
  (∀ s : State, s.agent = .host → opNumber .connect = 0x40#8 ∧
    (s.disposed = true → exec .connect s = .next (refusedWith s .disposed 12#8 [])) ∧
    (s.disposed = false → Online s → exec .connect s = .next (answered s (.bool true))) ∧
    (s.disposed = false → ¬ Online s → s.tlock ≠ .free → exec .connect s = .next (waiting s)) ∧
    (s.disposed = false → ¬ Online s → s.tlock = .free →
      exec .connect s = .next
        { s with
          tlock := .heldConnect, xop := .connect, busState := .connecting, offlineReason := .none,
          hist := s.hist ++ [.bus .connecting .none], result := .underWay })) ∧
  (∀ (s : State) (t : Transaction) (rest : List Input), s.inputs = .invoke .host t :: rest → decode t = .ok .connect →
    s.disposed = false → Online s →
    (s.tlock = .free → step s = .next { s with inputs := rest, agent := .host, result := .ok (.bool true) }) ∧
    (s.tlock ≠ .free →
      step s = .next
        { s with
          inputs := rest, agent := .host, connectReturns := s.connectReturns + 1, result := .underWay })) ∧
  (∀ (s : State) (rest : List Input), s.inputs = .connectReturn :: rest →
    (∀ n, s.connectReturns = n + 1 → s.tlock = .free →
      step s = .next { s with inputs := rest, agent := .host, connectReturns := n, result := .ok (.bool true) }) ∧
    ((s.connectReturns = 0 ∨ s.tlock ≠ .free) →
      step s = .next { s with inputs := rest, agent := .host, result := .notEnabled }))

/-- CONNECT, step C2 (R266): the empty name, then the drawn outcome. PortName is the host's: the move that configures it sets it
and changes nothing else (R265, R302; the move is the model's, log 7). -/
def Obligations.ConnectEnds : Prop :=
  (∀ (s : State) (name : List Char) (rest : List Input), s.inputs = .configure name :: rest →
    step s = .next { s with inputs := rest, portName := name }) ∧
  ∀ (s : State) (rest : List Input), s.inputs = .finish :: rest → s.xop = .connect →
    (s.portName = [] →
      step s = .next (connectRefused { s with inputs := rest, agent := .host } .configEmptyPort 1#8)) ∧
    (∀ a d, s.portName ≠ [] → DrawsPort { s with inputs := rest, agent := .host } a d →
      step s = .next
        (match a with
        | .opened =>
          { d with
            portOpen := true, busState := .online, hist := s.hist ++ [.bus .online .none], tlock := .free,
            xop := .idle, result := .ok (.bool true) }
        | .unresolvable => connectRefused d .configUnresolvablePort 2#8
        | .inUse => connectRefused d .portInUse 3#8
        | .ioError => connectRefused d .ioErrorOpen 4#8
        | .unsupported => connectRefused d .unsupportedParams 5#8))

/-- DISCONNECT (R268, R269). The host's takes steps K1 and K2, also once the dispatcher is STOPPED. The permanent one is
D_STOP's, with both its steps inside D_STOP; that the host's DISCONNECT true is refused, and that the dispatcher's under its own
op number is D_STOP, is the model's reading of "host; D_STOP (permanent)" (R102; log 17). That the host's overwrites the reason
that a CONNECT failed with follows R268, not R302 (log 23). -/
def Obligations.DisconnectClosesThePort : Prop :=
  ∀ s : State, (∀ q, opNumber (.disconnect q) = 0x41#8) ∧
    (s.agent = .host → s.tlock = .free →
      exec (.disconnect false) s =
        .next { s with tlock := .heldDisconnect, xop := .disconnect, result := .underWay }) ∧
    (s.agent = .host → s.tlock ≠ .free → exec (.disconnect false) s = .next (waiting s)) ∧
    (∀ rest, s.inputs = .finish :: rest → s.xop = .disconnect →
      step s = .next
        { s with
          inputs := rest, agent := .host, portOpen := false, busState := .offline, offlineReason := .disconnected,
          hist := s.hist ++ [.bus .offline .disconnected], tlock := .free, xop := .idle, result := .ok .unit }) ∧
    (s.agent = .host → exec (.disconnect true) s = .next (refusedWith s .badOpcode 13#8 [0x41#8])) ∧
    (s.agent = .dispatcher → MayStop s → exec (.disconnect true) s = .next (stopped s)) ∧
    (s.agent = .dispatcher → ¬ MayStop s → exec (.disconnect true) s = .next (waiting s))

/-- EXCHANGE, steps X1 and X2 (R270 to R273), invoked by the dispatcher under its own op number. That it is then the attempt of
CUR, with the retry decision of R227 in its final step, and not enabled for anything else, is the model's reading of "inside
D_ATTEMPT" (R270; log 18); that operands out of range are refused is log 13. -/
def Obligations.ExchangeWritesThenDrains : Prop :=
  (∀ (s : State) (f : List Byte) (n : Nat), s.agent = .dispatcher → opNumber (.exchange f n) = 0x42#8 ∧
    ((255 < f.length ∨ n = 0 ∨ 255 < n) → exec (.exchange f n) s = .next (refusedWith s .badArgument 11#8 f)) ∧
    (f.length ≤ 255 → 1 ≤ n → n ≤ 255 → (∀ r, ¬ AtExchange s f n r) → exec (.exchange f n) s = .next (waiting s)) ∧
    (∀ r, f.length ≤ 255 → 1 ≤ n → n ≤ 255 → AtExchange s f n r →
      (s.tlock ≠ .free → exec (.exchange f n) s = .next (waiting s)) ∧
      (s.tlock = .free → Online s →
        exec (.exchange f n) s = .next
          { s with
            tlock := .heldExchange, xop := .exchange n false, txb := f, hist := s.hist ++ [.tx f],
            result := .underWay }) ∧
      (s.tlock = .free → ¬ Online s →
        DecidesRetry s r False
          { s with
            rxb := blank n, rxCount := 0, hist := s.hist ++ [.rx (blank n) 0], attempt := s.attempt + 1,
            result := .ok (.outcome .notOnline) }
          (exec (.exchange f n) s)))) ∧
  (∀ (s d : State) (r : PendingRequest) (n : Nat) (a : LineAnswer) (rest : List Input), s.inputs = .finish :: rest →
    s.xop = .exchange n false → s.cur = some r → DrawsLine { s with inputs := rest, agent := .dispatcher } a d →
    DecidesRetry s r (a = .fault)
      { exchanged d n r.seq a with
        attempt := s.attempt + 1
        result := .ok (.outcome
          (match a with
          | .bytes _ => .bytes
          | .ioFailure => .ioFailure
          | .fault => .fault)) }
      (step s))

/-- TLOCK (R264): while it is held no operation writes the transport's elements; the final step of the operation under way
frees it; and only a free lock is taken. -/
def Obligations.TransportLockDiscipline : Prop :=
  (∀ (i : Instr) (s t : State), exec i s = .next t → s.tlock ≠ .free →
    t.tlock = s.tlock ∧ t.xop = s.xop ∧ t.txb = s.txb ∧ t.rxb = s.rxb ∧ t.rxCount = s.rxCount ∧
    t.busState = s.busState ∧ t.offlineReason = s.offlineReason ∧ t.portOpen = s.portOpen) ∧
  (∀ (i : Instr) (s t : State), exec i s = .next t → t.tlock ≠ s.tlock → s.tlock = .free ∧ t.result = .underWay) ∧
  (∀ (s : State) (rest : List Input), s.inputs = .finish :: rest → s.xop ≠ .idle →
    ∃ t, step s = .next t ∧ t.tlock = .free ∧ t.xop = .idle)

/-- READ_STATUS (R274, R52), and the registers after reset (R45 to R51; the QUEUE_DEPTH field is that of the OPEN parameter,
the model's choice, log 2, and is left out). -/
def Obligations.ReadStatusReturnsView : Prop :=
  (∀ (s : State) (k : Nat), opNumber (.readStatus k) = 0x43#8 ∧
    (k ≤ 7 → exec (.readStatus k) s = .next (answered s (.status (s.view k)))) ∧
    (7 < k → exec (.readStatus k) s = .next (refusedWith s .badArgument 11#8 [])) ∧
    s.view 7 = 0x00000000#32) ∧
  State.reset.view 0 = 0x00000000#32 ∧ State.reset.view 1 = 0x00010000#32 ∧ State.reset.view 2 = 0x00000000#32 ∧
  State.reset.view 3 = 0x0000FFFF#32 ∧ State.reset.view 4 = 0x00000000#32 ∧ State.reset.view 5 = 0x00000000#32 ∧
  (State.reset.view 6).extractLsb' 0 16 = 0x5506#16

/-- The fields of the status registers (R45 to R51), in every state whose counts fit their fields (Invariants). -/
def Obligations.StatusFields : Prop :=
  ∀ s : State, Invariants s →
    ((s.view 0).extractLsb' 0 2 =
        (match s.busState with
        | .unconnected => 0#2
        | .connecting => 1#2
        | .online => 2#2
        | .offline => 3#2) ∧
      (s.view 0).getLsbD 2 = s.portOpen ∧ (s.view 0).getLsbD 3 = decide (s.tlock ≠ .free) ∧
      (s.view 0).getLsbD 4 = s.disposed ∧ (s.view 0).extractLsb' 5 3 = 0#3 ∧
      (s.view 0).extractLsb' 8 4 =
        (match s.offlineReason with
        | .none => 0#4
        | .configEmptyPort => 1#4
        | .configUnresolvablePort => 2#4
        | .portInUse => 3#4
        | .ioErrorOpen => 4#4
        | .unsupportedParams => 5#4
        | .ioErrorExchange => 6#4
        | .disconnected => 7#4) ∧
      (s.view 0).extractLsb' 12 20 = 0#20) ∧
    (((s.view 1).extractLsb' 0 16).toNat = min s.queue.length 0xFFFF ∧
      (s.view 1).getLsbD 16 = decide (s.queue.length = 0) ∧
      (s.view 1).getLsbD 17 = decide (s.params.queueDepth = some s.queue.length) ∧ (s.view 1).extractLsb' 18 14 = 0#14) ∧
    ((s.view 2).extractLsb' 0 3 =
        (match s.dstate with
        | .idle => 0#3
        | .sleep => 1#3
        | .exch => 2#3
        | .backoff => 3#3
        | .deliver => 4#3
        | .stopped => 5#3) ∧
      (s.view 2).getLsbD 3 = s.cur.isSome ∧ ((s.view 2).extractLsb' 4 4).toNat = s.attempt ∧
      ((s.view 2).extractLsb' 8 8).toNat = (s.cur.map (fun r => r.expLen)).getD 0 ∧
      (s.view 2).extractLsb' 16 4 =
        (match s.cur.map (fun r => kind r.payload) with
        | some .move => 1#4
        | some .openCmd => 2#4
        | some .closeCmd => 3#4
        | some .stopCmd => 4#4
        | some .setdir => 5#4
        | some .qpos => 6#4
        | some .qstate => 7#4
        | some .qdir => 8#4
        | some .handshake => 9#4
        | some .register => 10#4
        | some .generic => 0#4
        | none => 0#4) ∧
      (s.view 2).extractLsb' 20 12 = 0#12) ∧
    ((s.view 3).extractLsb' 0 16 = s.crcAcc ∧ (s.view 3).extractLsb' 16 16 = 0#16) ∧
    (((s.view 4).extractLsb' 0 8).toNat = s.rxCount ∧ ((s.view 4).extractLsb' 8 8).toNat = s.rxb.length ∧
      ((s.view 4).getLsbD 16 = true ↔ s.rxCount = s.rxb.length ∧ 1 ≤ s.rxb.length ∧ s.rxb[0]? = some 0x55#8) ∧
      (s.view 4).extractLsb' 17 15 = 0#15) ∧
    ((s.view 5).extractLsb' 0 8 = s.lastCause ∧ ((s.view 5).extractLsb' 8 24).toNat = min s.log.length 0xFFFFFF) ∧
    (((s.view 6).extractLsb' 0 4).toNat = s.params.maxAttempts ∧ (s.view 6).getLsbD 4 = s.params.checkRxCrc ∧
      (s.view 6).extractLsb' 5 2 =
        (match s.params.posOor with
        | .reject => 0#2
        | .clamp => 1#2
        | .pass => 2#2) ∧
      (s.view 6).getLsbD 7 =
        (match s.params.rxExcess with
        | .discard => false
        | .retain => true) ∧
      (s.view 6).extractLsb' 8 8 = 0x55#8 ∧
      ((s.view 6).extractLsb' 16 16).toNat =
        (match s.params.queueDepth with
        | some n => if n ≤ 0xFFFE then n else 0xFFFF
        | none => 0xFFFF))

end
end

