-- ==== Sys2Proof/Laws/Codec.lean ====
section
/-! SUPPORT. Each operand of an operation is read back from its operand bytes, whatever stands after it (log 3). -/

namespace Sys2Proof

theorem getByte_putByte (b : Byte) (rest : List Byte) : getByte (putByte b ++ rest) = .ok (b, rest) := rfl

theorem getNat_putNat {n : Nat} (h : natOk n = true) (rest : List Byte) : getNat (putNat n ++ rest) = .ok (n, rest) := by
  have h32 : n < 4294967296 := by simpa [natOk] using h
  simp only [putNat, List.cons_append, List.nil_append, getNat, BitVec.toNat_ofNat]
  congr 2
  omega

theorem getBytes_putBytes {bs : List Byte} (h : bytesOk bs = true) (rest : List Byte) :
    getBytes (putBytes bs ++ rest) = .ok (bs, rest) := by
  unfold getBytes putBytes
  rw [List.append_assoc, getNat_putNat h]
  simp

theorem getSession_putSession {o : SessionId} (h : sessionOk o = true) (rest : List Byte) :
    getSession (putSession o ++ rest) = .ok (o, rest) := by
  have ho : bytesOk o.ref = true := h
  simp only [getSession, putSession, getBytes_putBytes ho]

theorem getOptNat_putOptNat {n : Option Nat} (h : optNatOk n = true) (rest : List Byte) :
    getOptNat (putOptNat n ++ rest) = .ok (n, rest) := by
  cases n with
  | none => rfl
  | some n =>
    have hn : natOk n = true := h
    simp only [putOptNat, List.cons_append, getOptNat, getNat_putNat hn]
    rfl

theorem getTag_putTag (t : ChannelTag) (rest : List Byte) : getTag (putTag t ++ rest) = .ok (t, rest) := by
  cases t <;> rfl

theorem getOptTag_putOptTag (t : Option ChannelTag) (rest : List Byte) :
    getOptTag (putOptTag t ++ rest) = .ok (t, rest) := by
  cases t with
  | none => rfl
  | some t => cases t <;> rfl

theorem getBool_putBool (b : Bool) (rest : List Byte) : getBool (putBool b ++ rest) = .ok (b, rest) := by
  cases b <;> rfl

theorem getRequest_putRequest {r : PendingRequest} (h : requestOk r = true) (rest : List Byte) :
    getRequest (putRequest r ++ rest) = .ok (r, rest) := by
  simp only [requestOk, Bool.and_eq_true] at h
  obtain ⟨⟨⟨ho, hp⟩, hn⟩, hs⟩ := h
  simp only [getRequest, putRequest, List.append_assoc, getSession_putSession ho, getBytes_putBytes hp, getNat_putNat hn,
    getTag_putTag, getOptNat_putOptNat hs, bind, Except.bind]

end Sys2Proof
end

