-- ==== Sys2Proof/Laws/Crc.lean ====
section
/-! SUPPORT. The CRC functions are linear over exclusive or (41_crc.md R138, R139): what the table form, the residue and the
difference of two CRCs rest on. -/

namespace Sys2Proof.Machine

/-- A shift step as the shifted word and a conditional polynomial. -/
theorem crcBit_eq (c : U16) : crcBit c = (c >>> 1) ^^^ (if c.getLsbD 0 then Config.crcPoly else 0#16) := by
  unfold crcBit
  split <;> simp

theorem crcBit_xor (a b : U16) : crcBit (a ^^^ b) = crcBit a ^^^ crcBit b := by
  have hs : (a ^^^ b) >>> 1 = (a >>> 1) ^^^ (b >>> 1) := BitVec.ushiftRight_xor_distrib a b 1
  rw [crcBit_eq, crcBit_eq, crcBit_eq, hs, BitVec.getLsbD_xor]
  generalize a >>> 1 = x, b >>> 1 = y
  cases a.getLsbD 0 <;> cases b.getLsbD 0 <;> simp only [Bool.xor_false, Bool.xor_true, Bool.not_false, Bool.not_true,
    Bool.false_eq_true, if_true, if_false, BitVec.xor_zero] <;> ac_nf
  simp

theorem iterate_crcBit_xor (n : Nat) (a b : U16) :
    iterate crcBit n (a ^^^ b) = iterate crcBit n a ^^^ iterate crcBit n b := by
  induction n generalizing a b with
  | zero => rfl
  | succ n ih => rw [iterate, crcBit_xor, ih, iterate, iterate]

/-- One byte folded into the difference of two accumulators. -/
theorem crcByte_xor (a b : U16) (x y : Byte) : crcByte (a ^^^ b) (x ^^^ y) = crcByte a x ^^^ crcByte b y := by
  unfold crcByte
  rw [← iterate_crcBit_xor, BitVec.setWidth_xor]
  congr 1
  ac_rfl

/-- A byte is folded in as it stands in the low half of the accumulator. -/
theorem crcByte_low (c : U16) (b : Byte) : crcByte c b = iterate crcBit 8 (c ^^^ b.setWidth 16) := rfl

/-- A word whose low half is zero only shifts. -/
theorem iterate_crcBit_high (c : U16) (h : c.setWidth 8 = 0#8) : iterate crcBit 8 c = c >>> 8 := by
  have low : ∀ k, k < 8 → c.getLsbD k = false := by
    intro k hk
    have := congrArg (fun v => v.getLsbD k) h
    simpa [hk] using this
  have shift : ∀ n, n ≤ 8 → iterate crcBit n c = c >>> n := by
    intro n
    induction n with
    | zero => intro _; simp [iterate]
    | succ n ih =>
      intro hn
      have step : ∀ m (a : U16), iterate crcBit (m + 1) a = crcBit (iterate crcBit m a) := by
        intro m
        induction m with
        | zero => intro a; rfl
        | succ m ihm => intro a; rw [iterate, ihm]; rfl
      rw [step, ih (by omega), crcBit]
      have : (c >>> n).getLsbD 0 = false := by simpa using low n (by omega)
      rw [this]
      simp [← BitVec.shiftRight_add]
  exact shift 8 (Nat.le_refl 8)

/-- An accumulator folded with its own low byte keeps its high byte only. -/
theorem crcByte_own_low (c : U16) : crcByte c (c.extractLsb' 0 8) = c >>> 8 := by
  have hz : ((c.extractLsb' 0 8).setWidth 16 ^^^ c).setWidth 8 = 0#8 := by
    ext k hk
    simp
  have hx : (c ^^^ (c.extractLsb' 0 8).setWidth 16).setWidth 8 = 0#8 := by rw [BitVec.xor_comm]; exact hz
  rw [crcByte_low, iterate_crcBit_high _ hx]
  ext k hk
  simp

end Sys2Proof.Machine
end

