-- ==== Sys2Proof/Laws/State.lean ====
section
/-! SUPPORT. One lemma for each field of State after each named update. -/

namespace Sys2Proof.Machine

variable (s : State)

/-! ### emit -/

@[simp] theorem State.emit_crcAcc (es : List Event) : (s.emit es).crcAcc = s.crcAcc := rfl
@[simp] theorem State.emit_txb (es : List Event) : (s.emit es).txb = s.txb := rfl
@[simp] theorem State.emit_rxb (es : List Event) : (s.emit es).rxb = s.rxb := rfl
@[simp] theorem State.emit_rxCount (es : List Event) : (s.emit es).rxCount = s.rxCount := rfl
@[simp] theorem State.emit_queue (es : List Event) : (s.emit es).queue = s.queue := rfl
@[simp] theorem State.emit_enqSeq (es : List Event) : (s.emit es).enqSeq = s.enqSeq := rfl
@[simp] theorem State.emit_cur (es : List Event) : (s.emit es).cur = s.cur := rfl
@[simp] theorem State.emit_dstate (es : List Event) : (s.emit es).dstate = s.dstate := rfl
@[simp] theorem State.emit_attempt (es : List Event) : (s.emit es).attempt = s.attempt := rfl
@[simp] theorem State.emit_busState (es : List Event) : (s.emit es).busState = s.busState := rfl
@[simp] theorem State.emit_offlineReason (es : List Event) : (s.emit es).offlineReason = s.offlineReason := rfl
@[simp] theorem State.emit_portOpen (es : List Event) : (s.emit es).portOpen = s.portOpen := rfl
@[simp] theorem State.emit_tlock (es : List Event) : (s.emit es).tlock = s.tlock := rfl
@[simp] theorem State.emit_disposed (es : List Event) : (s.emit es).disposed = s.disposed := rfl
@[simp] theorem State.emit_lastCause (es : List Event) : (s.emit es).lastCause = s.lastCause := rfl
@[simp] theorem State.emit_log (es : List Event) : (s.emit es).log = s.log := rfl
@[simp] theorem State.emit_hist (es : List Event) : (s.emit es).hist = s.hist ++ es := rfl
@[simp] theorem State.emit_params (es : List Event) : (s.emit es).params = s.params := rfl
@[simp] theorem State.emit_portName (es : List Event) : (s.emit es).portName = s.portName := rfl
@[simp] theorem State.emit_xop (es : List Event) : (s.emit es).xop = s.xop := rfl
@[simp] theorem State.emit_sends (es : List Event) : (s.emit es).sends = s.sends := rfl
@[simp] theorem State.emit_connectReturns (es : List Event) : (s.emit es).connectReturns = s.connectReturns := rfl
@[simp] theorem State.emit_held (es : List Event) : (s.emit es).held = s.held := rfl
@[simp] theorem State.emit_inputs (es : List Event) : (s.emit es).inputs = s.inputs := rfl
@[simp] theorem State.emit_lineIn (es : List Event) : (s.emit es).lineIn = s.lineIn := rfl
@[simp] theorem State.emit_portIn (es : List Event) : (s.emit es).portIn = s.portIn := rfl
@[simp] theorem State.emit_draws (es : List Event) : (s.emit es).draws = s.draws := rfl
@[simp] theorem State.emit_agent (es : List Event) : (s.emit es).agent = s.agent := rfl
@[simp] theorem State.emit_result (es : List Event) : (s.emit es).result = s.result := rfl

/-! ### raise -/

@[simp] theorem State.raise_crcAcc (c : Cause) (q : Option Nat) (info : List Byte) : (s.raise c q info).crcAcc = s.crcAcc := rfl
@[simp] theorem State.raise_txb (c : Cause) (q : Option Nat) (info : List Byte) : (s.raise c q info).txb = s.txb := rfl
@[simp] theorem State.raise_rxb (c : Cause) (q : Option Nat) (info : List Byte) : (s.raise c q info).rxb = s.rxb := rfl
@[simp] theorem State.raise_rxCount (c : Cause) (q : Option Nat) (info : List Byte) : (s.raise c q info).rxCount = s.rxCount := rfl
@[simp] theorem State.raise_queue (c : Cause) (q : Option Nat) (info : List Byte) : (s.raise c q info).queue = s.queue := rfl
@[simp] theorem State.raise_enqSeq (c : Cause) (q : Option Nat) (info : List Byte) : (s.raise c q info).enqSeq = s.enqSeq := rfl
@[simp] theorem State.raise_cur (c : Cause) (q : Option Nat) (info : List Byte) : (s.raise c q info).cur = s.cur := rfl
@[simp] theorem State.raise_dstate (c : Cause) (q : Option Nat) (info : List Byte) : (s.raise c q info).dstate = s.dstate := rfl
@[simp] theorem State.raise_attempt (c : Cause) (q : Option Nat) (info : List Byte) : (s.raise c q info).attempt = s.attempt := rfl
@[simp] theorem State.raise_busState (c : Cause) (q : Option Nat) (info : List Byte) : (s.raise c q info).busState = s.busState := rfl
@[simp] theorem State.raise_offlineReason (c : Cause) (q : Option Nat) (info : List Byte) : (s.raise c q info).offlineReason = s.offlineReason := rfl
@[simp] theorem State.raise_portOpen (c : Cause) (q : Option Nat) (info : List Byte) : (s.raise c q info).portOpen = s.portOpen := rfl
@[simp] theorem State.raise_tlock (c : Cause) (q : Option Nat) (info : List Byte) : (s.raise c q info).tlock = s.tlock := rfl
@[simp] theorem State.raise_disposed (c : Cause) (q : Option Nat) (info : List Byte) : (s.raise c q info).disposed = s.disposed := rfl
@[simp] theorem State.raise_lastCause (c : Cause) (q : Option Nat) (info : List Byte) : (s.raise c q info).lastCause = c.code := rfl
@[simp] theorem State.raise_log (c : Cause) (q : Option Nat) (info : List Byte) : (s.raise c q info).log = s.log ++ [⟨c.code, q, info⟩] := rfl
@[simp] theorem State.raise_hist (c : Cause) (q : Option Nat) (info : List Byte) : (s.raise c q info).hist = s.hist ++ [.logged c.code q info] := rfl
@[simp] theorem State.raise_params (c : Cause) (q : Option Nat) (info : List Byte) : (s.raise c q info).params = s.params := rfl
@[simp] theorem State.raise_portName (c : Cause) (q : Option Nat) (info : List Byte) : (s.raise c q info).portName = s.portName := rfl
@[simp] theorem State.raise_xop (c : Cause) (q : Option Nat) (info : List Byte) : (s.raise c q info).xop = s.xop := rfl
@[simp] theorem State.raise_sends (c : Cause) (q : Option Nat) (info : List Byte) : (s.raise c q info).sends = s.sends := rfl
@[simp] theorem State.raise_connectReturns (c : Cause) (q : Option Nat) (info : List Byte) : (s.raise c q info).connectReturns = s.connectReturns := rfl
@[simp] theorem State.raise_held (c : Cause) (q : Option Nat) (info : List Byte) : (s.raise c q info).held = s.held := rfl
@[simp] theorem State.raise_inputs (c : Cause) (q : Option Nat) (info : List Byte) : (s.raise c q info).inputs = s.inputs := rfl
@[simp] theorem State.raise_lineIn (c : Cause) (q : Option Nat) (info : List Byte) : (s.raise c q info).lineIn = s.lineIn := rfl
@[simp] theorem State.raise_portIn (c : Cause) (q : Option Nat) (info : List Byte) : (s.raise c q info).portIn = s.portIn := rfl
@[simp] theorem State.raise_draws (c : Cause) (q : Option Nat) (info : List Byte) : (s.raise c q info).draws = s.draws := rfl
@[simp] theorem State.raise_agent (c : Cause) (q : Option Nat) (info : List Byte) : (s.raise c q info).agent = s.agent := rfl
@[simp] theorem State.raise_result (c : Cause) (q : Option Nat) (info : List Byte) : (s.raise c q info).result = s.result := rfl

/-! ### withResult -/

@[simp] theorem State.withResult_crcAcc (x : OpResult) : (s.withResult x).crcAcc = s.crcAcc := rfl
@[simp] theorem State.withResult_txb (x : OpResult) : (s.withResult x).txb = s.txb := rfl
@[simp] theorem State.withResult_rxb (x : OpResult) : (s.withResult x).rxb = s.rxb := rfl
@[simp] theorem State.withResult_rxCount (x : OpResult) : (s.withResult x).rxCount = s.rxCount := rfl
@[simp] theorem State.withResult_queue (x : OpResult) : (s.withResult x).queue = s.queue := rfl
@[simp] theorem State.withResult_enqSeq (x : OpResult) : (s.withResult x).enqSeq = s.enqSeq := rfl
@[simp] theorem State.withResult_cur (x : OpResult) : (s.withResult x).cur = s.cur := rfl
@[simp] theorem State.withResult_dstate (x : OpResult) : (s.withResult x).dstate = s.dstate := rfl
@[simp] theorem State.withResult_attempt (x : OpResult) : (s.withResult x).attempt = s.attempt := rfl
@[simp] theorem State.withResult_busState (x : OpResult) : (s.withResult x).busState = s.busState := rfl
@[simp] theorem State.withResult_offlineReason (x : OpResult) : (s.withResult x).offlineReason = s.offlineReason := rfl
@[simp] theorem State.withResult_portOpen (x : OpResult) : (s.withResult x).portOpen = s.portOpen := rfl
@[simp] theorem State.withResult_tlock (x : OpResult) : (s.withResult x).tlock = s.tlock := rfl
@[simp] theorem State.withResult_disposed (x : OpResult) : (s.withResult x).disposed = s.disposed := rfl
@[simp] theorem State.withResult_lastCause (x : OpResult) : (s.withResult x).lastCause = s.lastCause := rfl
@[simp] theorem State.withResult_log (x : OpResult) : (s.withResult x).log = s.log := rfl
@[simp] theorem State.withResult_hist (x : OpResult) : (s.withResult x).hist = s.hist := rfl
@[simp] theorem State.withResult_params (x : OpResult) : (s.withResult x).params = s.params := rfl
@[simp] theorem State.withResult_portName (x : OpResult) : (s.withResult x).portName = s.portName := rfl
@[simp] theorem State.withResult_xop (x : OpResult) : (s.withResult x).xop = s.xop := rfl
@[simp] theorem State.withResult_sends (x : OpResult) : (s.withResult x).sends = s.sends := rfl
@[simp] theorem State.withResult_connectReturns (x : OpResult) : (s.withResult x).connectReturns = s.connectReturns := rfl
@[simp] theorem State.withResult_held (x : OpResult) : (s.withResult x).held = s.held := rfl
@[simp] theorem State.withResult_inputs (x : OpResult) : (s.withResult x).inputs = s.inputs := rfl
@[simp] theorem State.withResult_lineIn (x : OpResult) : (s.withResult x).lineIn = s.lineIn := rfl
@[simp] theorem State.withResult_portIn (x : OpResult) : (s.withResult x).portIn = s.portIn := rfl
@[simp] theorem State.withResult_draws (x : OpResult) : (s.withResult x).draws = s.draws := rfl
@[simp] theorem State.withResult_agent (x : OpResult) : (s.withResult x).agent = s.agent := rfl
@[simp] theorem State.withResult_result (x : OpResult) : (s.withResult x).result = x := rfl

/-! ### enqueued -/

@[simp] theorem State.enqueued_crcAcc (r : PendingRequest) : (s.enqueued r).crcAcc = s.crcAcc := rfl
@[simp] theorem State.enqueued_txb (r : PendingRequest) : (s.enqueued r).txb = s.txb := rfl
@[simp] theorem State.enqueued_rxb (r : PendingRequest) : (s.enqueued r).rxb = s.rxb := rfl
@[simp] theorem State.enqueued_rxCount (r : PendingRequest) : (s.enqueued r).rxCount = s.rxCount := rfl
@[simp] theorem State.enqueued_queue (r : PendingRequest) : (s.enqueued r).queue = s.queue ++ [numbered r s.enqSeq] := rfl
@[simp] theorem State.enqueued_enqSeq (r : PendingRequest) : (s.enqueued r).enqSeq = s.enqSeq + 1 := rfl
@[simp] theorem State.enqueued_cur (r : PendingRequest) : (s.enqueued r).cur = s.cur := rfl
@[simp] theorem State.enqueued_dstate (r : PendingRequest) : (s.enqueued r).dstate = s.dstate := rfl
@[simp] theorem State.enqueued_attempt (r : PendingRequest) : (s.enqueued r).attempt = s.attempt := rfl
@[simp] theorem State.enqueued_busState (r : PendingRequest) : (s.enqueued r).busState = s.busState := rfl
@[simp] theorem State.enqueued_offlineReason (r : PendingRequest) : (s.enqueued r).offlineReason = s.offlineReason := rfl
@[simp] theorem State.enqueued_portOpen (r : PendingRequest) : (s.enqueued r).portOpen = s.portOpen := rfl
@[simp] theorem State.enqueued_tlock (r : PendingRequest) : (s.enqueued r).tlock = s.tlock := rfl
@[simp] theorem State.enqueued_disposed (r : PendingRequest) : (s.enqueued r).disposed = s.disposed := rfl
@[simp] theorem State.enqueued_lastCause (r : PendingRequest) : (s.enqueued r).lastCause = s.lastCause := rfl
@[simp] theorem State.enqueued_log (r : PendingRequest) : (s.enqueued r).log = s.log := rfl
@[simp] theorem State.enqueued_hist (r : PendingRequest) : (s.enqueued r).hist = s.hist ++ [.enq s.enqSeq r.owner r.payload r.expLen r.target] := rfl
@[simp] theorem State.enqueued_params (r : PendingRequest) : (s.enqueued r).params = s.params := rfl
@[simp] theorem State.enqueued_portName (r : PendingRequest) : (s.enqueued r).portName = s.portName := rfl
@[simp] theorem State.enqueued_xop (r : PendingRequest) : (s.enqueued r).xop = s.xop := rfl
@[simp] theorem State.enqueued_sends (r : PendingRequest) : (s.enqueued r).sends = s.sends := rfl
@[simp] theorem State.enqueued_connectReturns (r : PendingRequest) : (s.enqueued r).connectReturns = s.connectReturns := rfl
@[simp] theorem State.enqueued_held (r : PendingRequest) : (s.enqueued r).held = s.held := rfl
@[simp] theorem State.enqueued_inputs (r : PendingRequest) : (s.enqueued r).inputs = s.inputs := rfl
@[simp] theorem State.enqueued_lineIn (r : PendingRequest) : (s.enqueued r).lineIn = s.lineIn := rfl
@[simp] theorem State.enqueued_portIn (r : PendingRequest) : (s.enqueued r).portIn = s.portIn := rfl
@[simp] theorem State.enqueued_draws (r : PendingRequest) : (s.enqueued r).draws = s.draws := rfl
@[simp] theorem State.enqueued_agent (r : PendingRequest) : (s.enqueued r).agent = s.agent := rfl
@[simp] theorem State.enqueued_result (r : PendingRequest) : (s.enqueued r).result = s.result := rfl

/-! ### connectBegun -/

@[simp] theorem State.connectBegun_crcAcc : (s.connectBegun).crcAcc = s.crcAcc := rfl
@[simp] theorem State.connectBegun_txb : (s.connectBegun).txb = s.txb := rfl
@[simp] theorem State.connectBegun_rxb : (s.connectBegun).rxb = s.rxb := rfl
@[simp] theorem State.connectBegun_rxCount : (s.connectBegun).rxCount = s.rxCount := rfl
@[simp] theorem State.connectBegun_queue : (s.connectBegun).queue = s.queue := rfl
@[simp] theorem State.connectBegun_enqSeq : (s.connectBegun).enqSeq = s.enqSeq := rfl
@[simp] theorem State.connectBegun_cur : (s.connectBegun).cur = s.cur := rfl
@[simp] theorem State.connectBegun_dstate : (s.connectBegun).dstate = s.dstate := rfl
@[simp] theorem State.connectBegun_attempt : (s.connectBegun).attempt = s.attempt := rfl
@[simp] theorem State.connectBegun_busState : (s.connectBegun).busState = .connecting := rfl
@[simp] theorem State.connectBegun_offlineReason : (s.connectBegun).offlineReason = .none := rfl
@[simp] theorem State.connectBegun_portOpen : (s.connectBegun).portOpen = s.portOpen := rfl
@[simp] theorem State.connectBegun_tlock : (s.connectBegun).tlock = .heldConnect := rfl
@[simp] theorem State.connectBegun_disposed : (s.connectBegun).disposed = s.disposed := rfl
@[simp] theorem State.connectBegun_lastCause : (s.connectBegun).lastCause = s.lastCause := rfl
@[simp] theorem State.connectBegun_log : (s.connectBegun).log = s.log := rfl
@[simp] theorem State.connectBegun_hist : (s.connectBegun).hist = s.hist ++ [.bus .connecting .none] := rfl
@[simp] theorem State.connectBegun_params : (s.connectBegun).params = s.params := rfl
@[simp] theorem State.connectBegun_portName : (s.connectBegun).portName = s.portName := rfl
@[simp] theorem State.connectBegun_xop : (s.connectBegun).xop = .connect := rfl
@[simp] theorem State.connectBegun_sends : (s.connectBegun).sends = s.sends := rfl
@[simp] theorem State.connectBegun_connectReturns : (s.connectBegun).connectReturns = s.connectReturns := rfl
@[simp] theorem State.connectBegun_held : (s.connectBegun).held = s.held := rfl
@[simp] theorem State.connectBegun_inputs : (s.connectBegun).inputs = s.inputs := rfl
@[simp] theorem State.connectBegun_lineIn : (s.connectBegun).lineIn = s.lineIn := rfl
@[simp] theorem State.connectBegun_portIn : (s.connectBegun).portIn = s.portIn := rfl
@[simp] theorem State.connectBegun_draws : (s.connectBegun).draws = s.draws := rfl
@[simp] theorem State.connectBegun_agent : (s.connectBegun).agent = s.agent := rfl
@[simp] theorem State.connectBegun_result : (s.connectBegun).result = s.result := rfl

/-! ### connectOpened -/

@[simp] theorem State.connectOpened_crcAcc : (s.connectOpened).crcAcc = s.crcAcc := rfl
@[simp] theorem State.connectOpened_txb : (s.connectOpened).txb = s.txb := rfl
@[simp] theorem State.connectOpened_rxb : (s.connectOpened).rxb = s.rxb := rfl
@[simp] theorem State.connectOpened_rxCount : (s.connectOpened).rxCount = s.rxCount := rfl
@[simp] theorem State.connectOpened_queue : (s.connectOpened).queue = s.queue := rfl
@[simp] theorem State.connectOpened_enqSeq : (s.connectOpened).enqSeq = s.enqSeq := rfl
@[simp] theorem State.connectOpened_cur : (s.connectOpened).cur = s.cur := rfl
@[simp] theorem State.connectOpened_dstate : (s.connectOpened).dstate = s.dstate := rfl
@[simp] theorem State.connectOpened_attempt : (s.connectOpened).attempt = s.attempt := rfl
@[simp] theorem State.connectOpened_busState : (s.connectOpened).busState = .online := rfl
@[simp] theorem State.connectOpened_offlineReason : (s.connectOpened).offlineReason = s.offlineReason := rfl
@[simp] theorem State.connectOpened_portOpen : (s.connectOpened).portOpen = true := rfl
@[simp] theorem State.connectOpened_tlock : (s.connectOpened).tlock = .free := rfl
@[simp] theorem State.connectOpened_disposed : (s.connectOpened).disposed = s.disposed := rfl
@[simp] theorem State.connectOpened_lastCause : (s.connectOpened).lastCause = s.lastCause := rfl
@[simp] theorem State.connectOpened_log : (s.connectOpened).log = s.log := rfl
@[simp] theorem State.connectOpened_hist : (s.connectOpened).hist = s.hist ++ [.bus .online .none] := rfl
@[simp] theorem State.connectOpened_params : (s.connectOpened).params = s.params := rfl
@[simp] theorem State.connectOpened_portName : (s.connectOpened).portName = s.portName := rfl
@[simp] theorem State.connectOpened_xop : (s.connectOpened).xop = .idle := rfl
@[simp] theorem State.connectOpened_sends : (s.connectOpened).sends = s.sends := rfl
@[simp] theorem State.connectOpened_connectReturns : (s.connectOpened).connectReturns = s.connectReturns := rfl
@[simp] theorem State.connectOpened_held : (s.connectOpened).held = s.held := rfl
@[simp] theorem State.connectOpened_inputs : (s.connectOpened).inputs = s.inputs := rfl
@[simp] theorem State.connectOpened_lineIn : (s.connectOpened).lineIn = s.lineIn := rfl
@[simp] theorem State.connectOpened_portIn : (s.connectOpened).portIn = s.portIn := rfl
@[simp] theorem State.connectOpened_draws : (s.connectOpened).draws = s.draws := rfl
@[simp] theorem State.connectOpened_agent : (s.connectOpened).agent = s.agent := rfl
@[simp] theorem State.connectOpened_result : (s.connectOpened).result = s.result := rfl

/-! ### connectFailed -/

@[simp] theorem State.connectFailed_crcAcc (y : OfflineReason) (c : Cause) : (s.connectFailed y c).crcAcc = s.crcAcc := rfl
@[simp] theorem State.connectFailed_txb (y : OfflineReason) (c : Cause) : (s.connectFailed y c).txb = s.txb := rfl
@[simp] theorem State.connectFailed_rxb (y : OfflineReason) (c : Cause) : (s.connectFailed y c).rxb = s.rxb := rfl
@[simp] theorem State.connectFailed_rxCount (y : OfflineReason) (c : Cause) : (s.connectFailed y c).rxCount = s.rxCount := rfl
@[simp] theorem State.connectFailed_queue (y : OfflineReason) (c : Cause) : (s.connectFailed y c).queue = s.queue := rfl
@[simp] theorem State.connectFailed_enqSeq (y : OfflineReason) (c : Cause) : (s.connectFailed y c).enqSeq = s.enqSeq := rfl
@[simp] theorem State.connectFailed_cur (y : OfflineReason) (c : Cause) : (s.connectFailed y c).cur = s.cur := rfl
@[simp] theorem State.connectFailed_dstate (y : OfflineReason) (c : Cause) : (s.connectFailed y c).dstate = s.dstate := rfl
@[simp] theorem State.connectFailed_attempt (y : OfflineReason) (c : Cause) : (s.connectFailed y c).attempt = s.attempt := rfl
@[simp] theorem State.connectFailed_busState (y : OfflineReason) (c : Cause) : (s.connectFailed y c).busState = .offline := rfl
@[simp] theorem State.connectFailed_offlineReason (y : OfflineReason) (c : Cause) : (s.connectFailed y c).offlineReason = y := rfl
@[simp] theorem State.connectFailed_portOpen (y : OfflineReason) (c : Cause) : (s.connectFailed y c).portOpen = false := rfl
@[simp] theorem State.connectFailed_tlock (y : OfflineReason) (c : Cause) : (s.connectFailed y c).tlock = .free := rfl
@[simp] theorem State.connectFailed_disposed (y : OfflineReason) (c : Cause) : (s.connectFailed y c).disposed = s.disposed := rfl
@[simp] theorem State.connectFailed_lastCause (y : OfflineReason) (c : Cause) : (s.connectFailed y c).lastCause = c.code := rfl
@[simp] theorem State.connectFailed_log (y : OfflineReason) (c : Cause) : (s.connectFailed y c).log = s.log ++ [⟨c.code, none, []⟩] := rfl
@[simp] theorem State.connectFailed_hist (y : OfflineReason) (c : Cause) : (s.connectFailed y c).hist = (s.hist ++ [.bus .offline y]) ++ [.logged c.code none []] := rfl
@[simp] theorem State.connectFailed_params (y : OfflineReason) (c : Cause) : (s.connectFailed y c).params = s.params := rfl
@[simp] theorem State.connectFailed_portName (y : OfflineReason) (c : Cause) : (s.connectFailed y c).portName = s.portName := rfl
@[simp] theorem State.connectFailed_xop (y : OfflineReason) (c : Cause) : (s.connectFailed y c).xop = .idle := rfl
@[simp] theorem State.connectFailed_sends (y : OfflineReason) (c : Cause) : (s.connectFailed y c).sends = s.sends := rfl
@[simp] theorem State.connectFailed_connectReturns (y : OfflineReason) (c : Cause) : (s.connectFailed y c).connectReturns = s.connectReturns := rfl
@[simp] theorem State.connectFailed_held (y : OfflineReason) (c : Cause) : (s.connectFailed y c).held = s.held := rfl
@[simp] theorem State.connectFailed_inputs (y : OfflineReason) (c : Cause) : (s.connectFailed y c).inputs = s.inputs := rfl
@[simp] theorem State.connectFailed_lineIn (y : OfflineReason) (c : Cause) : (s.connectFailed y c).lineIn = s.lineIn := rfl
@[simp] theorem State.connectFailed_portIn (y : OfflineReason) (c : Cause) : (s.connectFailed y c).portIn = s.portIn := rfl
@[simp] theorem State.connectFailed_draws (y : OfflineReason) (c : Cause) : (s.connectFailed y c).draws = s.draws := rfl
@[simp] theorem State.connectFailed_agent (y : OfflineReason) (c : Cause) : (s.connectFailed y c).agent = s.agent := rfl
@[simp] theorem State.connectFailed_result (y : OfflineReason) (c : Cause) : (s.connectFailed y c).result = s.result := rfl

/-! ### disconnectBegun -/

@[simp] theorem State.disconnectBegun_crcAcc : s.disconnectBegun.crcAcc = s.crcAcc := rfl
@[simp] theorem State.disconnectBegun_txb : s.disconnectBegun.txb = s.txb := rfl
@[simp] theorem State.disconnectBegun_rxb : s.disconnectBegun.rxb = s.rxb := rfl
@[simp] theorem State.disconnectBegun_rxCount : s.disconnectBegun.rxCount = s.rxCount := rfl
@[simp] theorem State.disconnectBegun_queue : s.disconnectBegun.queue = s.queue := rfl
@[simp] theorem State.disconnectBegun_enqSeq : s.disconnectBegun.enqSeq = s.enqSeq := rfl
@[simp] theorem State.disconnectBegun_cur : s.disconnectBegun.cur = s.cur := rfl
@[simp] theorem State.disconnectBegun_dstate : s.disconnectBegun.dstate = s.dstate := rfl
@[simp] theorem State.disconnectBegun_attempt : s.disconnectBegun.attempt = s.attempt := rfl
@[simp] theorem State.disconnectBegun_busState : s.disconnectBegun.busState = s.busState := rfl
@[simp] theorem State.disconnectBegun_offlineReason : s.disconnectBegun.offlineReason = s.offlineReason := rfl
@[simp] theorem State.disconnectBegun_portOpen : s.disconnectBegun.portOpen = s.portOpen := rfl
@[simp] theorem State.disconnectBegun_tlock : s.disconnectBegun.tlock = .heldDisconnect := rfl
@[simp] theorem State.disconnectBegun_disposed : s.disconnectBegun.disposed = s.disposed := rfl
@[simp] theorem State.disconnectBegun_lastCause : s.disconnectBegun.lastCause = s.lastCause := rfl
@[simp] theorem State.disconnectBegun_log : s.disconnectBegun.log = s.log := rfl
@[simp] theorem State.disconnectBegun_hist : s.disconnectBegun.hist = s.hist := rfl
@[simp] theorem State.disconnectBegun_params : s.disconnectBegun.params = s.params := rfl
@[simp] theorem State.disconnectBegun_portName : s.disconnectBegun.portName = s.portName := rfl
@[simp] theorem State.disconnectBegun_xop : s.disconnectBegun.xop = .disconnect := rfl
@[simp] theorem State.disconnectBegun_sends : s.disconnectBegun.sends = s.sends := rfl
@[simp] theorem State.disconnectBegun_connectReturns : s.disconnectBegun.connectReturns = s.connectReturns := rfl
@[simp] theorem State.disconnectBegun_held : s.disconnectBegun.held = s.held := rfl
@[simp] theorem State.disconnectBegun_inputs : s.disconnectBegun.inputs = s.inputs := rfl
@[simp] theorem State.disconnectBegun_lineIn : s.disconnectBegun.lineIn = s.lineIn := rfl
@[simp] theorem State.disconnectBegun_portIn : s.disconnectBegun.portIn = s.portIn := rfl
@[simp] theorem State.disconnectBegun_draws : s.disconnectBegun.draws = s.draws := rfl
@[simp] theorem State.disconnectBegun_agent : s.disconnectBegun.agent = s.agent := rfl
@[simp] theorem State.disconnectBegun_result : s.disconnectBegun.result = s.result := rfl

/-! ### portClosed -/

@[simp] theorem State.portClosed_crcAcc (b : Bool) : (s.portClosed b).crcAcc = s.crcAcc := by cases b <;> rfl
@[simp] theorem State.portClosed_txb (b : Bool) : (s.portClosed b).txb = s.txb := by cases b <;> rfl
@[simp] theorem State.portClosed_rxb (b : Bool) : (s.portClosed b).rxb = s.rxb := by cases b <;> rfl
@[simp] theorem State.portClosed_rxCount (b : Bool) : (s.portClosed b).rxCount = s.rxCount := by cases b <;> rfl
@[simp] theorem State.portClosed_queue (b : Bool) : (s.portClosed b).queue = s.queue := by cases b <;> rfl
@[simp] theorem State.portClosed_enqSeq (b : Bool) : (s.portClosed b).enqSeq = s.enqSeq := by cases b <;> rfl
@[simp] theorem State.portClosed_cur (b : Bool) : (s.portClosed b).cur = s.cur := by cases b <;> rfl
@[simp] theorem State.portClosed_dstate (b : Bool) : (s.portClosed b).dstate = s.dstate := by cases b <;> rfl
@[simp] theorem State.portClosed_attempt (b : Bool) : (s.portClosed b).attempt = s.attempt := by cases b <;> rfl
@[simp] theorem State.portClosed_busState (b : Bool) : (s.portClosed b).busState = if b then s.busState else .offline := by cases b <;> rfl
@[simp] theorem State.portClosed_offlineReason (b : Bool) : (s.portClosed b).offlineReason = if b then s.offlineReason else .disconnected := by cases b <;> rfl
@[simp] theorem State.portClosed_portOpen (b : Bool) : (s.portClosed b).portOpen = false := by cases b <;> rfl
@[simp] theorem State.portClosed_tlock (b : Bool) : (s.portClosed b).tlock = s.tlock := by cases b <;> rfl
@[simp] theorem State.portClosed_disposed (b : Bool) : (s.portClosed b).disposed = s.disposed := by cases b <;> rfl
@[simp] theorem State.portClosed_lastCause (b : Bool) : (s.portClosed b).lastCause = s.lastCause := by cases b <;> rfl
@[simp] theorem State.portClosed_log (b : Bool) : (s.portClosed b).log = s.log := by cases b <;> rfl
@[simp] theorem State.portClosed_hist (b : Bool) : (s.portClosed b).hist = if b then s.hist else s.hist ++ [.bus .offline .disconnected] := by cases b <;> rfl
@[simp] theorem State.portClosed_params (b : Bool) : (s.portClosed b).params = s.params := by cases b <;> rfl
@[simp] theorem State.portClosed_portName (b : Bool) : (s.portClosed b).portName = s.portName := by cases b <;> rfl
@[simp] theorem State.portClosed_xop (b : Bool) : (s.portClosed b).xop = s.xop := by cases b <;> rfl
@[simp] theorem State.portClosed_sends (b : Bool) : (s.portClosed b).sends = s.sends := by cases b <;> rfl
@[simp] theorem State.portClosed_connectReturns (b : Bool) : (s.portClosed b).connectReturns = s.connectReturns := by cases b <;> rfl
@[simp] theorem State.portClosed_held (b : Bool) : (s.portClosed b).held = s.held := by cases b <;> rfl
@[simp] theorem State.portClosed_inputs (b : Bool) : (s.portClosed b).inputs = s.inputs := by cases b <;> rfl
@[simp] theorem State.portClosed_lineIn (b : Bool) : (s.portClosed b).lineIn = s.lineIn := by cases b <;> rfl
@[simp] theorem State.portClosed_portIn (b : Bool) : (s.portClosed b).portIn = s.portIn := by cases b <;> rfl
@[simp] theorem State.portClosed_draws (b : Bool) : (s.portClosed b).draws = s.draws := by cases b <;> rfl
@[simp] theorem State.portClosed_agent (b : Bool) : (s.portClosed b).agent = s.agent := by cases b <;> rfl
@[simp] theorem State.portClosed_result (b : Bool) : (s.portClosed b).result = s.result := by cases b <;> rfl

/-! ### exchangeBegun -/

@[simp] theorem State.exchangeBegun_crcAcc (f : List Byte) (n : Nat) (b : Bool) : (s.exchangeBegun f n b).crcAcc = s.crcAcc := rfl
@[simp] theorem State.exchangeBegun_txb (f : List Byte) (n : Nat) (b : Bool) : (s.exchangeBegun f n b).txb = f := rfl
@[simp] theorem State.exchangeBegun_rxb (f : List Byte) (n : Nat) (b : Bool) : (s.exchangeBegun f n b).rxb = s.rxb := rfl
@[simp] theorem State.exchangeBegun_rxCount (f : List Byte) (n : Nat) (b : Bool) : (s.exchangeBegun f n b).rxCount = s.rxCount := rfl
@[simp] theorem State.exchangeBegun_queue (f : List Byte) (n : Nat) (b : Bool) : (s.exchangeBegun f n b).queue = s.queue := rfl
@[simp] theorem State.exchangeBegun_enqSeq (f : List Byte) (n : Nat) (b : Bool) : (s.exchangeBegun f n b).enqSeq = s.enqSeq := rfl
@[simp] theorem State.exchangeBegun_cur (f : List Byte) (n : Nat) (b : Bool) : (s.exchangeBegun f n b).cur = s.cur := rfl
@[simp] theorem State.exchangeBegun_dstate (f : List Byte) (n : Nat) (b : Bool) : (s.exchangeBegun f n b).dstate = s.dstate := rfl
@[simp] theorem State.exchangeBegun_attempt (f : List Byte) (n : Nat) (b : Bool) : (s.exchangeBegun f n b).attempt = s.attempt := rfl
@[simp] theorem State.exchangeBegun_busState (f : List Byte) (n : Nat) (b : Bool) : (s.exchangeBegun f n b).busState = s.busState := rfl
@[simp] theorem State.exchangeBegun_offlineReason (f : List Byte) (n : Nat) (b : Bool) : (s.exchangeBegun f n b).offlineReason = s.offlineReason := rfl
@[simp] theorem State.exchangeBegun_portOpen (f : List Byte) (n : Nat) (b : Bool) : (s.exchangeBegun f n b).portOpen = s.portOpen := rfl
@[simp] theorem State.exchangeBegun_tlock (f : List Byte) (n : Nat) (b : Bool) : (s.exchangeBegun f n b).tlock = .heldExchange := rfl
@[simp] theorem State.exchangeBegun_disposed (f : List Byte) (n : Nat) (b : Bool) : (s.exchangeBegun f n b).disposed = s.disposed := rfl
@[simp] theorem State.exchangeBegun_lastCause (f : List Byte) (n : Nat) (b : Bool) : (s.exchangeBegun f n b).lastCause = s.lastCause := rfl
@[simp] theorem State.exchangeBegun_log (f : List Byte) (n : Nat) (b : Bool) : (s.exchangeBegun f n b).log = s.log := rfl
@[simp] theorem State.exchangeBegun_hist (f : List Byte) (n : Nat) (b : Bool) : (s.exchangeBegun f n b).hist = s.hist ++ [.tx f] := rfl
@[simp] theorem State.exchangeBegun_params (f : List Byte) (n : Nat) (b : Bool) : (s.exchangeBegun f n b).params = s.params := rfl
@[simp] theorem State.exchangeBegun_portName (f : List Byte) (n : Nat) (b : Bool) : (s.exchangeBegun f n b).portName = s.portName := rfl
@[simp] theorem State.exchangeBegun_xop (f : List Byte) (n : Nat) (b : Bool) : (s.exchangeBegun f n b).xop = .exchange n b := rfl
@[simp] theorem State.exchangeBegun_sends (f : List Byte) (n : Nat) (b : Bool) : (s.exchangeBegun f n b).sends = s.sends := rfl
@[simp] theorem State.exchangeBegun_connectReturns (f : List Byte) (n : Nat) (b : Bool) : (s.exchangeBegun f n b).connectReturns = s.connectReturns := rfl
@[simp] theorem State.exchangeBegun_held (f : List Byte) (n : Nat) (b : Bool) : (s.exchangeBegun f n b).held = s.held := rfl
@[simp] theorem State.exchangeBegun_inputs (f : List Byte) (n : Nat) (b : Bool) : (s.exchangeBegun f n b).inputs = s.inputs := rfl
@[simp] theorem State.exchangeBegun_lineIn (f : List Byte) (n : Nat) (b : Bool) : (s.exchangeBegun f n b).lineIn = s.lineIn := rfl
@[simp] theorem State.exchangeBegun_portIn (f : List Byte) (n : Nat) (b : Bool) : (s.exchangeBegun f n b).portIn = s.portIn := rfl
@[simp] theorem State.exchangeBegun_draws (f : List Byte) (n : Nat) (b : Bool) : (s.exchangeBegun f n b).draws = s.draws := rfl
@[simp] theorem State.exchangeBegun_agent (f : List Byte) (n : Nat) (b : Bool) : (s.exchangeBegun f n b).agent = s.agent := rfl
@[simp] theorem State.exchangeBegun_result (f : List Byte) (n : Nat) (b : Bool) : (s.exchangeBegun f n b).result = s.result := rfl

/-! ### exchangeOffline -/

@[simp] theorem State.exchangeOffline_crcAcc (n : Nat) : (s.exchangeOffline n).crcAcc = s.crcAcc := rfl
@[simp] theorem State.exchangeOffline_txb (n : Nat) : (s.exchangeOffline n).txb = s.txb := rfl
@[simp] theorem State.exchangeOffline_rxb (n : Nat) : (s.exchangeOffline n).rxb = zeros n := rfl
@[simp] theorem State.exchangeOffline_rxCount (n : Nat) : (s.exchangeOffline n).rxCount = 0 := rfl
@[simp] theorem State.exchangeOffline_queue (n : Nat) : (s.exchangeOffline n).queue = s.queue := rfl
@[simp] theorem State.exchangeOffline_enqSeq (n : Nat) : (s.exchangeOffline n).enqSeq = s.enqSeq := rfl
@[simp] theorem State.exchangeOffline_cur (n : Nat) : (s.exchangeOffline n).cur = s.cur := rfl
@[simp] theorem State.exchangeOffline_dstate (n : Nat) : (s.exchangeOffline n).dstate = s.dstate := rfl
@[simp] theorem State.exchangeOffline_attempt (n : Nat) : (s.exchangeOffline n).attempt = s.attempt := rfl
@[simp] theorem State.exchangeOffline_busState (n : Nat) : (s.exchangeOffline n).busState = s.busState := rfl
@[simp] theorem State.exchangeOffline_offlineReason (n : Nat) : (s.exchangeOffline n).offlineReason = s.offlineReason := rfl
@[simp] theorem State.exchangeOffline_portOpen (n : Nat) : (s.exchangeOffline n).portOpen = s.portOpen := rfl
@[simp] theorem State.exchangeOffline_tlock (n : Nat) : (s.exchangeOffline n).tlock = s.tlock := rfl
@[simp] theorem State.exchangeOffline_disposed (n : Nat) : (s.exchangeOffline n).disposed = s.disposed := rfl
@[simp] theorem State.exchangeOffline_lastCause (n : Nat) : (s.exchangeOffline n).lastCause = s.lastCause := rfl
@[simp] theorem State.exchangeOffline_log (n : Nat) : (s.exchangeOffline n).log = s.log := rfl
@[simp] theorem State.exchangeOffline_hist (n : Nat) : (s.exchangeOffline n).hist = s.hist ++ [.rx (zeros n) 0] := rfl
@[simp] theorem State.exchangeOffline_params (n : Nat) : (s.exchangeOffline n).params = s.params := rfl
@[simp] theorem State.exchangeOffline_portName (n : Nat) : (s.exchangeOffline n).portName = s.portName := rfl
@[simp] theorem State.exchangeOffline_xop (n : Nat) : (s.exchangeOffline n).xop = s.xop := rfl
@[simp] theorem State.exchangeOffline_sends (n : Nat) : (s.exchangeOffline n).sends = s.sends := rfl
@[simp] theorem State.exchangeOffline_connectReturns (n : Nat) : (s.exchangeOffline n).connectReturns = s.connectReturns := rfl
@[simp] theorem State.exchangeOffline_held (n : Nat) : (s.exchangeOffline n).held = s.held := rfl
@[simp] theorem State.exchangeOffline_inputs (n : Nat) : (s.exchangeOffline n).inputs = s.inputs := rfl
@[simp] theorem State.exchangeOffline_lineIn (n : Nat) : (s.exchangeOffline n).lineIn = s.lineIn := rfl
@[simp] theorem State.exchangeOffline_portIn (n : Nat) : (s.exchangeOffline n).portIn = s.portIn := rfl
@[simp] theorem State.exchangeOffline_draws (n : Nat) : (s.exchangeOffline n).draws = s.draws := rfl
@[simp] theorem State.exchangeOffline_agent (n : Nat) : (s.exchangeOffline n).agent = s.agent := rfl
@[simp] theorem State.exchangeOffline_result (n : Nat) : (s.exchangeOffline n).result = s.result := rfl

/-! ### afterLine -/

@[simp] theorem State.afterLine_crcAcc : s.afterLine.crcAcc = s.crcAcc := by unfold State.afterLine; split <;> rfl
@[simp] theorem State.afterLine_txb : s.afterLine.txb = s.txb := by unfold State.afterLine; split <;> rfl
@[simp] theorem State.afterLine_rxb : s.afterLine.rxb = s.rxb := by unfold State.afterLine; split <;> rfl
@[simp] theorem State.afterLine_rxCount : s.afterLine.rxCount = s.rxCount := by unfold State.afterLine; split <;> rfl
@[simp] theorem State.afterLine_queue : s.afterLine.queue = s.queue := by unfold State.afterLine; split <;> rfl
@[simp] theorem State.afterLine_enqSeq : s.afterLine.enqSeq = s.enqSeq := by unfold State.afterLine; split <;> rfl
@[simp] theorem State.afterLine_cur : s.afterLine.cur = s.cur := by unfold State.afterLine; split <;> rfl
@[simp] theorem State.afterLine_dstate : s.afterLine.dstate = s.dstate := by unfold State.afterLine; split <;> rfl
@[simp] theorem State.afterLine_attempt : s.afterLine.attempt = s.attempt := by unfold State.afterLine; split <;> rfl
@[simp] theorem State.afterLine_busState : s.afterLine.busState = s.busState := by unfold State.afterLine; split <;> rfl
@[simp] theorem State.afterLine_offlineReason : s.afterLine.offlineReason = s.offlineReason := by unfold State.afterLine; split <;> rfl
@[simp] theorem State.afterLine_portOpen : s.afterLine.portOpen = s.portOpen := by unfold State.afterLine; split <;> rfl
@[simp] theorem State.afterLine_tlock : s.afterLine.tlock = s.tlock := by unfold State.afterLine; split <;> rfl
@[simp] theorem State.afterLine_disposed : s.afterLine.disposed = s.disposed := by unfold State.afterLine; split <;> rfl
@[simp] theorem State.afterLine_lastCause : s.afterLine.lastCause = s.lastCause := by unfold State.afterLine; split <;> rfl
@[simp] theorem State.afterLine_log : s.afterLine.log = s.log := by unfold State.afterLine; split <;> rfl
@[simp] theorem State.afterLine_hist : s.afterLine.hist = s.hist := by unfold State.afterLine; split <;> rfl
@[simp] theorem State.afterLine_params : s.afterLine.params = s.params := by unfold State.afterLine; split <;> rfl
@[simp] theorem State.afterLine_portName : s.afterLine.portName = s.portName := by unfold State.afterLine; split <;> rfl
@[simp] theorem State.afterLine_xop : s.afterLine.xop = s.xop := by unfold State.afterLine; split <;> rfl
@[simp] theorem State.afterLine_sends : s.afterLine.sends = s.sends := by unfold State.afterLine; split <;> rfl
@[simp] theorem State.afterLine_connectReturns : s.afterLine.connectReturns = s.connectReturns := by unfold State.afterLine; split <;> rfl
@[simp] theorem State.afterLine_held : s.afterLine.held = s.held := by unfold State.afterLine; split <;> rfl
@[simp] theorem State.afterLine_inputs : s.afterLine.inputs = s.inputs := by unfold State.afterLine; split <;> rfl
@[simp] theorem State.afterLine_portIn : s.afterLine.portIn = s.portIn := by unfold State.afterLine; split <;> rfl
@[simp] theorem State.afterLine_agent : s.afterLine.agent = s.agent := by unfold State.afterLine; split <;> rfl
@[simp] theorem State.afterLine_result : s.afterLine.result = s.result := by unfold State.afterLine; split <;> rfl

/-! ### afterPort -/

@[simp] theorem State.afterPort_crcAcc : s.afterPort.crcAcc = s.crcAcc := by unfold State.afterPort; split <;> rfl
@[simp] theorem State.afterPort_txb : s.afterPort.txb = s.txb := by unfold State.afterPort; split <;> rfl
@[simp] theorem State.afterPort_rxb : s.afterPort.rxb = s.rxb := by unfold State.afterPort; split <;> rfl
@[simp] theorem State.afterPort_rxCount : s.afterPort.rxCount = s.rxCount := by unfold State.afterPort; split <;> rfl
@[simp] theorem State.afterPort_queue : s.afterPort.queue = s.queue := by unfold State.afterPort; split <;> rfl
@[simp] theorem State.afterPort_enqSeq : s.afterPort.enqSeq = s.enqSeq := by unfold State.afterPort; split <;> rfl
@[simp] theorem State.afterPort_cur : s.afterPort.cur = s.cur := by unfold State.afterPort; split <;> rfl
@[simp] theorem State.afterPort_dstate : s.afterPort.dstate = s.dstate := by unfold State.afterPort; split <;> rfl
@[simp] theorem State.afterPort_attempt : s.afterPort.attempt = s.attempt := by unfold State.afterPort; split <;> rfl
@[simp] theorem State.afterPort_busState : s.afterPort.busState = s.busState := by unfold State.afterPort; split <;> rfl
@[simp] theorem State.afterPort_offlineReason : s.afterPort.offlineReason = s.offlineReason := by unfold State.afterPort; split <;> rfl
@[simp] theorem State.afterPort_portOpen : s.afterPort.portOpen = s.portOpen := by unfold State.afterPort; split <;> rfl
@[simp] theorem State.afterPort_tlock : s.afterPort.tlock = s.tlock := by unfold State.afterPort; split <;> rfl
@[simp] theorem State.afterPort_disposed : s.afterPort.disposed = s.disposed := by unfold State.afterPort; split <;> rfl
@[simp] theorem State.afterPort_lastCause : s.afterPort.lastCause = s.lastCause := by unfold State.afterPort; split <;> rfl
@[simp] theorem State.afterPort_log : s.afterPort.log = s.log := by unfold State.afterPort; split <;> rfl
@[simp] theorem State.afterPort_hist : s.afterPort.hist = s.hist := by unfold State.afterPort; split <;> rfl
@[simp] theorem State.afterPort_params : s.afterPort.params = s.params := by unfold State.afterPort; split <;> rfl
@[simp] theorem State.afterPort_portName : s.afterPort.portName = s.portName := by unfold State.afterPort; split <;> rfl
@[simp] theorem State.afterPort_xop : s.afterPort.xop = s.xop := by unfold State.afterPort; split <;> rfl
@[simp] theorem State.afterPort_sends : s.afterPort.sends = s.sends := by unfold State.afterPort; split <;> rfl
@[simp] theorem State.afterPort_connectReturns : s.afterPort.connectReturns = s.connectReturns := by unfold State.afterPort; split <;> rfl
@[simp] theorem State.afterPort_held : s.afterPort.held = s.held := by unfold State.afterPort; split <;> rfl
@[simp] theorem State.afterPort_inputs : s.afterPort.inputs = s.inputs := by unfold State.afterPort; split <;> rfl
@[simp] theorem State.afterPort_lineIn : s.afterPort.lineIn = s.lineIn := by unfold State.afterPort; split <;> rfl
@[simp] theorem State.afterPort_agent : s.afterPort.agent = s.agent := by unfold State.afterPort; split <;> rfl
@[simp] theorem State.afterPort_result : s.afterPort.result = s.result := by unfold State.afterPort; split <;> rfl

end Sys2Proof.Machine
end

