-- ==== Sys2Proof/Laws/Effects.lean ====
section
/-! SUPPORT. What an instruction can do, said once: if exec answers a next state, the state is one of the effects of Effect
with a result. The provers cite exec_effect instead of unfolding the meanings. -/

namespace Sys2Proof.Machine

/-- The effects of the instructions on the state, the result apart, each with what enabled it. -/
inductive Effect (s : State) : State → Prop
  | quiet : Effect s s
  | raised (c : Cause) (info : List Byte) : Effect s (s.raise c none info)
  | accumulated (v : U16) : Effect s { s with crcAcc := v }
  | enqueued (r : PendingRequest) (hd : s.disposed = false) (hl : badLengths r.payload r.expLen = false)
      (hf : s.queueFull = false) : Effect s (s.enqueued r)
  | sent (r : PendingRequest) (ws : List SendWait) (hd : s.disposed = false)
      (hl : badLengths r.payload r.expLen = false) (hf : s.queueFull = false) :
      Effect s { s.enqueued r with sends := ws }
  | disposed (hd : s.disposed = false) : Effect s { s with disposed := true, hist := s.hist ++ [.disposed] }
  | connectBegun (hd : s.disposed = false) (hc : s.connected = false) (hk : s.tlock = .free) : Effect s s.connectBegun
  | disconnectBegun (hk : s.tlock = .free) : Effect s s.disconnectBegun
  | fetched (r : PendingRequest) (rest : List PendingRequest) (hs : s.dstate = .idle) (hd : s.disposed = false)
      (hq : s.queue = r :: rest) :
      Effect s { s with queue := rest, cur := some r, attempt := 0, dstate := .exch, hist := s.hist ++ [.deq r.seq] }
  | slept (hs : s.dstate = .idle) (hd : s.disposed = false) (hq : s.queue = []) : Effect s { s with dstate := .sleep }
  | woke (hs : s.dstate = .sleep) (hd : s.disposed = false) : Effect s { s with dstate := .idle }
  | attemptBegun (r : PendingRequest) (b : Bool) (hs : s.dstate = .exch) (hr : s.cur = some r)
      (hp : payloadTooLong r.payload = false) (hk : s.tlock = .free) (hc : s.connected = true) :
      Effect s (s.exchangeBegun (frameOf r.payload) r.expLen b)
  | attemptOffline (r : PendingRequest) (hs : s.dstate = .exch) (hr : s.cur = some r)
      (hp : payloadTooLong r.payload = false) (hk : s.tlock = .free) (hc : s.connected = false) :
      Effect s ((s.exchangeOffline r.expLen).attemptEnded r .notOnline)
  | retried (hs : s.dstate = .backoff) (hd : s.disposed = false) : Effect s { s with dstate := .exch }
  | abandoned (hs : s.dstate = .backoff) (hd : s.disposed = true) :
      Effect s { s.raise .commandFailure s.curSeq [] with dstate := .deliver }
  | delivered (r : PendingRequest) (d : Decoded) (hs : s.dstate = .deliver) (hr : s.cur = some r)
      (ha : decodeAnswer s.params r s.rxb s.rxCount = .ok d) :
      Effect s
        { s with
          cur := none
          attempt := 0
          dstate := .idle
          hist := s.hist ++
            (.deliver r.owner r.seq s.rxb s.rxCount (vSuccess s.params r s.rxb s.rxCount) :: decodeEvents r d) }
  | stopped (es : List Event) (hd : s.disposed = true) (hs : s.dstate = .idle ∨ s.dstate = .sleep) (hk : s.tlock = .free)
      (he : drainEvents s.params s.queue = .ok es) :
      Effect s { s with queue := [], dstate := .stopped, portOpen := false, hist := s.hist ++ es }

/-- A step that ends in an effect and a result, or in a fault, never in a refusal of the model. -/
def Answers (s : State) (o : Step) : Prop :=
  (∀ t, o = .next t → ∃ u x, Effect s u ∧ t = u.withResult x) ∧ ∀ r, o ≠ .refused r

theorem answers_next {s u : State} (h : Effect s u) (x : OpResult) : Answers s (.next (u.withResult x)) := by
  refine ⟨fun t ht => ?_, fun r hr => ?_⟩
  · cases ht
    exact ⟨u, x, h, rfl⟩
  · cases hr

theorem reply_answers {s u : State} (h : Effect s u) (v : Reply) : Answers s (reply v u) := answers_next h _

theorem underWay_answers {s u : State} (h : Effect s u) : Answers s (underWay u) := answers_next h _

theorem notEnabled_answers (s : State) : Answers s (notEnabled s) := answers_next .quiet _

theorem refuse_answers (c : Cause) (info : List Byte) (s : State) : Answers s (refuse c info s) :=
  answers_next (.raised c info) _

theorem fault_answers (s : State) (f : Fault) : Answers s (.fault f) := by
  refine ⟨fun t ht => ?_, fun r hr => ?_⟩
  · cases ht
  · cases hr

theorem guarded_answers {i : Instr} {s : State} {k : Step} (h : Answers s k) : Answers s (guarded i s k) := by
  unfold guarded
  split
  · exact h
  · exact refuse_answers _ _ s

theorem replyDecoded_answers (d : Except Fault Decoded) (s : State) : Answers s (replyDecoded d s) := by
  unfold replyDecoded
  split
  · exact reply_answers .quiet _
  · exact fault_answers s _

theorem decoderFor_answers (k : Kind) (r : PendingRequest) (d : Except Fault Decoded) (s : State) :
    Answers s (decoderFor k r d s) := by
  unfold decoderFor
  split
  · exact replyDecoded_answers d s
  · exact refuse_answers _ _ s

theorem enqueueRequest_answers (r : PendingRequest) (s : State) : Answers s (enqueueRequest r s) := by
  unfold enqueueRequest
  split
  · exact refuse_answers _ _ s
  · split
    · exact refuse_answers _ _ s
    · split
      · exact notEnabled_answers s
      · exact reply_answers (.enqueued r (by simp_all) (by simp_all) (by simp_all)) _

/-- MK_GENERIC refuses every request ENQUEUE would refuse for its lengths (R164, R220). -/
theorem badLengths_of_badGeneric {p : List Byte} {n : Nat} (h : badGeneric p n = false) : badLengths p n = false := by
  unfold badGeneric at h
  simp only [Bool.or_eq_false_iff] at h
  exact h.1

theorem execSend_answers (o : SessionId) (p : List Byte) (n : Nat) (t : Option ChannelTag) (s : State) :
    Answers s (execSend o p n t s) := by
  refine guarded_answers ?_
  split
  · exact refuse_answers _ _ s
  · split
    · exact refuse_answers _ _ s
    · split
      · exact notEnabled_answers s
      · rename_i hd hg hf
        exact underWay_answers (.sent (genericRequest o p n (t.getD .other)) _ (by simp_all)
          (badLengths_of_badGeneric (eq_false_of_ne_true hg)) (by simp_all))

theorem beginExchange_answers {s : State} {r : PendingRequest} (b : Bool) (hs : s.dstate = .exch) (hr : s.cur = some r)
    (hp : payloadTooLong r.payload = false) : Answers s (beginExchange r b s) := by
  unfold beginExchange
  split
  · exact notEnabled_answers s
  · split
    · exact underWay_answers (.attemptBegun r b hs hr hp (by simp_all) (by simp_all))
    · exact reply_answers (.attemptOffline r hs hr hp (by simp_all) (by simp_all)) _

theorem routeBack_answers {s : State} {r : PendingRequest} (v : Decoded → Reply) (hs : s.dstate = .deliver)
    (hr : s.cur = some r) : Answers s (routeBack r v s) := by
  unfold routeBack
  split
  · rename_i d hd
    exact reply_answers (.delivered r d hs hr hd) _
  · exact fault_answers s _

theorem stopDispatcher_answers (s : State) : Answers s (stopDispatcher s) := by
  unfold stopDispatcher
  split
  · rename_i h
    split
    · rename_i es he
      exact reply_answers (.stopped es h.1 h.2.1 h.2.2 he) _
    · exact fault_answers s _
  · exact notEnabled_answers s

theorem execDattempt_answers (s : State) : Answers s (execDattempt s) := by
  refine guarded_answers ?_
  split
  · rename_i r hs hr
    split
    · exact refuse_answers _ _ s
    · exact beginExchange_answers true hs hr (by simp_all)
  · exact notEnabled_answers s

theorem execDdeliver_answers (s : State) : Answers s (execDdeliver s) := by
  refine guarded_answers ?_
  split
  · rename_i r hs hr
    exact routeBack_answers _ hs hr
  · exact notEnabled_answers s

theorem execDfetch_answers (s : State) : Answers s (execDfetch s) := by
  refine guarded_answers ?_
  split
  · rename_i h
    split
    · rename_i r rest hq
      exact reply_answers (.fetched r rest h.1 h.2 hq) _
    · exact notEnabled_answers s
  · exact notEnabled_answers s

theorem execConnect_answers (s : State) : Answers s (execConnect s) := by
  refine guarded_answers ?_
  split
  · exact refuse_answers _ _ s
  · split
    · exact reply_answers .quiet _
    · split
      · exact underWay_answers (.connectBegun (by simp_all) (by simp_all) (by assumption))
      · exact notEnabled_answers s

/-- A frame that TXB holds is that of a payload BUILD accepts (R150). -/
theorem payloadFits_of_frame {p : List Byte} (h : (frameOf p).length ≤ Config.txMax) : payloadTooLong p = false := by
  simp only [frameOf, trailer, List.length_append, List.length_cons, List.length_nil] at h
  simp only [payloadTooLong, decide_eq_false_iff_not]
  omega

theorem execExchange_answers (f : List Byte) (n : Nat) (s : State) : Answers s (execExchange f n s) := by
  refine guarded_answers ?_
  split
  · exact refuse_answers _ _ s
  · rename_i hb
    split
    · rename_i r hs hr
      split
      · rename_i h
        refine beginExchange_answers false hs hr (payloadFits_of_frame ?_)
        rw [← h.1]
        simp only [badExchange, Bool.or_eq_true, decide_eq_true_eq, not_or, Nat.not_lt] at hb
        exact hb.1.1
      · exact notEnabled_answers s
    · exact notEnabled_answers s

theorem execDretry_answers (s : State) : Answers s (execDretry s) := by
  refine guarded_answers ?_
  split
  · split
    · exact reply_answers (.abandoned (by assumption) (by assumption)) _
    · exact reply_answers (.retried (by assumption) (by simp_all)) _
  · exact notEnabled_answers s

theorem execDecode_answers (r : PendingRequest) (buf : List Byte) (c : Nat) (s : State) :
    Answers s (execDecode r buf c s) := by
  refine guarded_answers ?_
  split
  · rename_i h
    exact routeBack_answers _ h.1 h.2.1
  · exact notEnabled_answers s

/-- A meaning that checks one argument and then replies or goes on. -/
theorem checked_answers {p : Prop} [Decidable p] {c : Cause} {info : List Byte} {s : State} {k : Step}
    (h : Answers s k) : Answers s (if p then refuse c info s else k) := by
  split
  · exact refuse_answers _ _ s
  · exact h

/-- Whatever instruction runs: if exec answers a next state, it is an effect and a result. -/
theorem exec_answers (i : Instr) (s : State) : Answers s (exec i s) := by
  cases i with
  | move a0 a1 p =>
    rw [exec, execMove]
    refine guarded_answers ?_
    exact checked_answers (enqueueRequest_answers _ s)
  | openCmd a0 a1 =>
    rw [exec, execOpenCmd]
    refine guarded_answers ?_
    exact enqueueRequest_answers _ s
  | closeCmd a0 a1 =>
    rw [exec, execCloseCmd]
    refine guarded_answers ?_
    exact enqueueRequest_answers _ s
  | stopCmd a0 a1 =>
    rw [exec, execStopCmd]
    refine guarded_answers ?_
    exact enqueueRequest_answers _ s
  | setdir a0 a1 d =>
    rw [exec, execSetdir]
    refine guarded_answers ?_
    exact checked_answers (enqueueRequest_answers _ s)
  | qpos a0 a1 =>
    rw [exec, execQpos]
    refine guarded_answers ?_
    exact enqueueRequest_answers _ s
  | qstate a0 a1 =>
    rw [exec, execQstate]
    refine guarded_answers ?_
    exact enqueueRequest_answers _ s
  | qdir a0 a1 =>
    rw [exec, execQdir]
    refine guarded_answers ?_
    exact enqueueRequest_answers _ s
  | handshake a0 a1 =>
    rw [exec, execHandshake]
    refine guarded_answers ?_
    exact enqueueRequest_answers _ s
  | register n0 n1 =>
    rw [exec, execRegister]
    refine guarded_answers ?_
    exact enqueueRequest_answers _ s
  | generic p n t =>
    rw [exec, execGeneric]
    refine guarded_answers ?_
    exact checked_answers (enqueueRequest_answers _ s)
  | crcInit =>
    rw [exec, execCrcInit]
    refine guarded_answers ?_
    exact reply_answers (.accumulated _) _
  | crcByte b =>
    rw [exec, execCrcByte]
    refine guarded_answers ?_
    exact reply_answers (.accumulated _) _
  | crcRead =>
    rw [exec, execCrcRead]
    refine guarded_answers ?_
    exact reply_answers .quiet _
  | checksum bs =>
    rw [exec, execChecksum]
    refine guarded_answers ?_
    exact checked_answers (reply_answers .quiet _)
  | build p =>
    rw [exec, execBuild]
    refine guarded_answers ?_
    exact checked_answers (reply_answers .quiet _)
  | expLen p hint =>
    rw [exec, execExpLen]
    refine guarded_answers ?_
    exact reply_answers .quiet _
  | mkMove o a0 a1 p =>
    rw [exec, execMkMove]
    refine guarded_answers ?_
    exact checked_answers (reply_answers .quiet _)
  | mkOpen o a0 a1 =>
    rw [exec, execMkOpen]
    refine guarded_answers ?_
    exact reply_answers .quiet _
  | mkClose o a0 a1 =>
    rw [exec, execMkClose]
    refine guarded_answers ?_
    exact reply_answers .quiet _
  | mkStop o a0 a1 =>
    rw [exec, execMkStop]
    refine guarded_answers ?_
    exact reply_answers .quiet _
  | mkSetdir o a0 a1 d =>
    rw [exec, execMkSetdir]
    refine guarded_answers ?_
    exact checked_answers (reply_answers .quiet _)
  | mkQpos o a0 a1 =>
    rw [exec, execMkQpos]
    refine guarded_answers ?_
    exact reply_answers .quiet _
  | mkQstate o a0 a1 =>
    rw [exec, execMkQstate]
    refine guarded_answers ?_
    exact reply_answers .quiet _
  | mkQdir o a0 a1 =>
    rw [exec, execMkQdir]
    refine guarded_answers ?_
    exact reply_answers .quiet _
  | mkHandshake o a0 a1 =>
    rw [exec, execMkHandshake]
    refine guarded_answers ?_
    exact reply_answers .quiet _
  | mkRegister o n0 n1 =>
    rw [exec, execMkRegister]
    refine guarded_answers ?_
    exact reply_answers .quiet _
  | mkGeneric o p n t =>
    rw [exec, execMkGeneric]
    refine guarded_answers ?_
    exact checked_answers (reply_answers .quiet _)
  | enqueue r =>
    rw [exec, execEnqueue]
    refine guarded_answers ?_
    exact enqueueRequest_answers r s
  | send o p n t => exact execSend_answers o p n t s
  | dispose =>
    rw [exec, execDispose]
    refine guarded_answers ?_
    split
    · exact reply_answers .quiet _
    · exact reply_answers (.disposed (by simp_all)) _
  | dFetch => exact execDfetch_answers s
  | dSleep =>
    rw [exec, execDsleep]
    refine guarded_answers ?_
    split
    · rename_i h
      exact reply_answers (.slept h.1 h.2.1 h.2.2) _
    · exact notEnabled_answers s
  | dWake =>
    rw [exec, execDwake]
    refine guarded_answers ?_
    split
    · rename_i h
      exact reply_answers (.woke h.1 h.2) _
    · exact notEnabled_answers s
  | dAttempt => exact execDattempt_answers s
  | dRetry => exact execDretry_answers s
  | dDeliver => exact execDdeliver_answers s
  | dStop => exact guarded_answers (stopDispatcher_answers s)
  | vBase buf c n =>
    rw [exec, execVbase]
    refine guarded_answers ?_
    exact reply_answers .quiet _
  | vCrc buf c =>
    rw [exec, execVcrc]
    refine guarded_answers ?_
    exact reply_answers .quiet _
  | vAddr r buf =>
    rw [exec, execVaddr]
    refine guarded_answers ?_
    exact reply_answers .quiet _
  | vEcho r buf =>
    rw [exec, execVecho]
    refine guarded_answers ?_
    exact reply_answers .quiet _
  | vRegack r buf =>
    rw [exec, execVregack]
    refine guarded_answers ?_
    exact reply_answers .quiet _
  | vSuccess r buf c =>
    rw [exec, execVsuccess]
    refine guarded_answers ?_
    exact reply_answers .quiet _
  | decPos r buf c =>
    rw [exec, execDecPos]
    refine guarded_answers ?_
    exact decoderFor_answers _ _ _ s
  | decState r buf c =>
    rw [exec, execDecState]
    refine guarded_answers ?_
    exact decoderFor_answers _ _ _ s
  | decDir r buf c =>
    rw [exec, execDecDir]
    refine guarded_answers ?_
    exact decoderFor_answers _ _ _ s
  | decVersion r buf c =>
    rw [exec, execDecVersion]
    refine guarded_answers ?_
    exact decoderFor_answers _ _ _ s
  | decRegack r buf c =>
    rw [exec, execDecRegack]
    refine guarded_answers ?_
    exact decoderFor_answers _ _ _ s
  | decode r buf c => exact execDecode_answers r buf c s
  | connect => exact execConnect_answers s
  | disconnect b =>
    rw [exec, execDisconnect]
    refine guarded_answers ?_
    split
    · exact stopDispatcher_answers s
    · split
      · exact underWay_answers (.disconnectBegun (by assumption))
      · exact notEnabled_answers s
  | exchange f n => exact execExchange_answers f n s
  | readStatus k =>
    rw [exec, execReadStatus]
    refine guarded_answers ?_
    exact checked_answers (reply_answers .quiet _)
  | uartEncode bs =>
    rw [exec, execUartEncode]
    refine guarded_answers ?_
    exact reply_answers .quiet _

/-- The same, as a fact about one next state. -/
theorem exec_effect {i : Instr} {s t : State} (h : exec i s = .next t) : ∃ u x, Effect s u ∧ t = u.withResult x :=
  (exec_answers i s).1 t h

/-- No instruction ends in a refusal of the model. -/
theorem exec_not_refused (i : Instr) (s : State) (r : Refusal) : exec i s ≠ .refused r := (exec_answers i s).2 r

end Sys2Proof.Machine
end

