-- ==== Sys2Proof/Laws/Sessions.lean ====
section
/-! SUPPORT. The engine assumes nothing of a SessionId but equality (00_scope.md R8, 91_not_in_source.md N8; log 1): every
instruction commutes with every one-to-one renaming of the sessions. So the model of an engine whose sessions are of another
countable type is this one, its sessions named by references. -/

namespace Sys2Proof.Machine

variable (f : SessionId → SessionId)

/-! ## Renaming the sessions -/

def renameRequest (r : PendingRequest) : PendingRequest := { r with owner := f r.owner }

def renameAgent : Agent → Agent
  | .host => .host
  | .producer o => .producer (f o)
  | .dispatcher => .dispatcher

def renameEvent : Event → Event
  | .enq q o p n t => .enq q (f o) p n t
  | .deq q => .deq q
  | .tx b => .tx b
  | .rx b c => .rx b c
  | .deliver o q b c x => .deliver (f o) q b c x
  | .emitted o t v => .emitted (f o) t v
  | .discarded o q d => .discarded (f o) q d
  | .logged c q i => .logged c q i
  | .bus b y => .bus b y
  | .disposed => .disposed

def renameReply : Reply → Reply
  | .request r => .request (renameRequest f r)
  | v => v

def renameResult : OpResult → OpResult
  | .ok v => .ok (renameReply f v)
  | x => x

def renameWait (w : SendWait) : SendWait := ⟨renameAgent f w.agent, f w.owner, w.seq⟩

/-- The state with its sessions renamed, the transactions that agents hold or are to give apart: they are bytes (log 3), which
no instruction reads. -/
def renameState (s : State) : State :=
  { s with
    queue := s.queue.map (renameRequest f)
    cur := s.cur.map (renameRequest f)
    hist := s.hist.map (renameEvent f)
    sends := s.sends.map (renameWait f)
    agent := renameAgent f s.agent
    result := renameResult f s.result }

def renameStep : Step → Step
  | .next s => .next (renameState f s)
  | .fault x => .fault x
  | .refused x => .refused x

def renameInstr : Instr → Instr
  | .mkMove o a0 a1 p => .mkMove (f o) a0 a1 p
  | .mkOpen o a0 a1 => .mkOpen (f o) a0 a1
  | .mkClose o a0 a1 => .mkClose (f o) a0 a1
  | .mkStop o a0 a1 => .mkStop (f o) a0 a1
  | .mkSetdir o a0 a1 d => .mkSetdir (f o) a0 a1 d
  | .mkQpos o a0 a1 => .mkQpos (f o) a0 a1
  | .mkQstate o a0 a1 => .mkQstate (f o) a0 a1
  | .mkQdir o a0 a1 => .mkQdir (f o) a0 a1
  | .mkHandshake o a0 a1 => .mkHandshake (f o) a0 a1
  | .mkRegister o n0 n1 => .mkRegister (f o) n0 n1
  | .mkGeneric o p n t => .mkGeneric (f o) p n t
  | .enqueue r => .enqueue (renameRequest f r)
  | .send o p n t => .send (f o) p n t
  | .vAddr r buf => .vAddr (renameRequest f r) buf
  | .vEcho r buf => .vEcho (renameRequest f r) buf
  | .vRegack r buf => .vRegack (renameRequest f r) buf
  | .vSuccess r buf c => .vSuccess (renameRequest f r) buf c
  | .decPos r buf c => .decPos (renameRequest f r) buf c
  | .decState r buf c => .decState (renameRequest f r) buf c
  | .decDir r buf c => .decDir (renameRequest f r) buf c
  | .decVersion r buf c => .decVersion (renameRequest f r) buf c
  | .decRegack r buf c => .decRegack (renameRequest f r) buf c
  | .decode r buf c => .decode (renameRequest f r) buf c
  | i => i

/-! ## The shared operations commute with it -/

variable {f}

theorem rename_reply (v : Reply) (s : State) :
    renameStep f (reply v s) = reply (renameReply f v) (renameState f s) := rfl

theorem rename_notEnabled (s : State) : renameStep f (notEnabled s) = notEnabled (renameState f s) := rfl

theorem rename_underWay (s : State) : renameStep f (underWay s) = underWay (renameState f s) := rfl

theorem rename_raise (c : Cause) (q : Option Nat) (info : List Byte) (s : State) :
    renameState f (s.raise c q info) = (renameState f s).raise c q info := by
  simp [renameState, State.raise, renameEvent]

theorem rename_refuse (c : Cause) (info : List Byte) (s : State) :
    renameStep f (refuse c info s) = refuse c info (renameState f s) := by
  rw [refuse, refuse, ← rename_raise]
  rfl

theorem rename_ite {p : Prop} [Decidable p] (a b : Step) :
    renameStep f (if p then a else b) = if p then renameStep f a else renameStep f b := by
  split <;> rfl

theorem permitted_rename (i : Instr) (a : Agent) : permitted (renameInstr f i) (renameAgent f a) = permitted i a := by
  have hi : invokedBy (renameInstr f i) = invokedBy i := by cases i <;> rfl
  rw [permitted, permitted, hi]
  cases a <;> cases invokedBy i <;> rfl

theorem opNumber_rename (i : Instr) : opNumber (renameInstr f i) = opNumber i := by
  cases i <;> rfl

/-- The permission check commutes; what it lets through has to only for the agents it lets through. -/
theorem rename_guarded {i : Instr} {s : State} {k k' : Step} (h : permitted i s.agent = true → renameStep f k = k') :
    renameStep f (guarded i s k) = guarded (renameInstr f i) (renameState f s) k' := by
  have hp : permitted (renameInstr f i) (renameState f s).agent = permitted i s.agent := permitted_rename i s.agent
  unfold guarded
  rw [hp, opNumber_rename]
  by_cases hi : permitted i s.agent = true
  · rw [if_pos hi, if_pos hi, h hi]
  · rw [if_neg hi, if_neg hi, rename_refuse]

theorem queueFull_rename (s : State) : (renameState f s).queueFull = s.queueFull := by
  simp [State.queueFull, renameState]

theorem rename_enqueued (r : PendingRequest) (s : State) :
    renameState f (s.enqueued r) = (renameState f s).enqueued (renameRequest f r) := by
  simp [renameState, State.enqueued, numbered, renameRequest, renameEvent]

theorem rename_enqueueRequest (r : PendingRequest) (s : State) :
    renameStep f (enqueueRequest r s) = enqueueRequest (renameRequest f r) (renameState f s) := by
  unfold enqueueRequest
  rw [rename_ite, rename_ite, rename_ite, rename_refuse, rename_refuse, rename_notEnabled, rename_reply, rename_enqueued,
    queueFull_rename]
  rfl

theorem rename_replyDecoded (d : Except Fault Decoded) (s : State) :
    renameStep f (replyDecoded d s) = replyDecoded d (renameState f s) := by
  cases d <;> rfl

theorem rename_decoderFor (k : Kind) (r : PendingRequest) (d : Except Fault Decoded) (s : State) :
    renameStep f (decoderFor k r d s) = decoderFor k (renameRequest f r) d (renameState f s) := by
  unfold decoderFor
  rw [rename_ite, rename_refuse, rename_replyDecoded]
  rfl

theorem decodeEvents_rename (r : PendingRequest) (d : Decoded) :
    decodeEvents (renameRequest f r) d = (decodeEvents r d).map (renameEvent f) := by
  cases d <;> rfl

theorem rename_routeBack {r : PendingRequest} {v : Decoded → Reply} (hv : ∀ d, renameReply f (v d) = v d) (s : State) :
    renameStep f (routeBack r v s) = routeBack (renameRequest f r) v (renameState f s) := by
  have hd : decodeAnswer (renameState f s).params (renameRequest f r) (renameState f s).rxb (renameState f s).rxCount =
    decodeAnswer s.params r s.rxb s.rxCount := rfl
  unfold routeBack
  rw [hd]
  cases decodeAnswer s.params r s.rxb s.rxCount with
  | ok d =>
    simp only [rename_reply, hv, decodeEvents_rename]
    simp [renameState, renameEvent]
    rfl
  | error x => rfl

theorem drainEvents_rename (ps : Params) (q : List PendingRequest) :
    drainEvents ps (q.map (renameRequest f)) = (drainEvents ps q).map (List.map (renameEvent f)) := by
  induction q with
  | nil => rfl
  | cons r q ih =>
    have hd : decodeAnswer ps (renameRequest f r) (zeros (renameRequest f r).expLen) 0 =
      decodeAnswer ps r (zeros r.expLen) 0 := rfl
    simp only [List.map_cons, drainEvents, ih, hd]
    cases decodeAnswer ps r (zeros r.expLen) 0 with
    | error x => rfl
    | ok d =>
      cases drainEvents ps q with
      | error x => rfl
      | ok es =>
        simp only [Except.map, decodeEvents_rename, List.map_cons, List.map_append]
        rfl

theorem rename_stopDispatcher (s : State) :
    renameStep f (stopDispatcher s) = stopDispatcher (renameState f s) := by
  unfold stopDispatcher
  rw [rename_ite, rename_notEnabled]
  have hq : drainEvents (renameState f s).params (renameState f s).queue =
    (drainEvents s.params s.queue).map (List.map (renameEvent f)) := drainEvents_rename s.params s.queue
  rw [hq]
  cases drainEvents s.params s.queue with
  | error x => rfl
  | ok es =>
    simp only [Except.map, rename_reply]
    simp [renameState, State.portClosed, renameReply]

theorem rename_attemptEnded (r : PendingRequest) (o : ExchangeOutcome) (s : State) :
    renameState f (s.attemptEnded r o) = (renameState f s).attemptEnded (renameRequest f r) o := by
  unfold State.attemptEnded
  have hv : vSuccess (renameState f s).params (renameRequest f r) (renameState f s).rxb (renameState f s).rxCount =
    vSuccess s.params r s.rxb s.rxCount := rfl
  rw [hv]
  by_cases ho : o = .fault
  · simp only [ho, if_true]
    simp [renameState, State.raise, renameEvent, renameRequest]
  · simp only [ho, if_false]
    by_cases hs : vSuccess s.params r s.rxb s.rxCount = true
    · simp only [hs, if_true]
      rfl
    · simp only [hs]
      by_cases hm : s.params.maxAttempts ≤ s.attempt + 1 ∨ s.disposed = true
      · have hm' : (renameState f s).params.maxAttempts ≤ (renameState f s).attempt + 1 ∨
          (renameState f s).disposed = true := hm
        simp only [if_pos hm, if_pos hm']
        simp [renameState, State.raise, renameEvent, renameRequest]
      · have hm' : ¬ ((renameState f s).params.maxAttempts ≤ (renameState f s).attempt + 1 ∨
          (renameState f s).disposed = true) := hm
        simp only [if_neg hm, if_neg hm']
        rfl

theorem rename_beginExchange (r : PendingRequest) (b : Bool) (s : State) :
    renameStep f (beginExchange r b s) = beginExchange (renameRequest f r) b (renameState f s) := by
  have ho : renameState f (s.exchangeOffline r.expLen) = (renameState f s).exchangeOffline r.expLen := by
    simp [renameState, State.exchangeOffline, renameEvent]
  have hb : renameState f (s.exchangeBegun (frameOf r.payload) r.expLen b) =
      (renameState f s).exchangeBegun (frameOf r.payload) r.expLen b := by
    simp [renameState, State.exchangeBegun, renameEvent]
  have hv : renameReply f (exchangeReply b .notOnline) = exchangeReply b .notOnline := by cases b <;> rfl
  unfold beginExchange
  rw [rename_ite, rename_ite, rename_notEnabled, rename_underWay, rename_reply, rename_attemptEnded, ho, hb, hv]
  rfl

theorem cur_rename (hf : Function.Injective f) (s : State) (r : PendingRequest) :
    (renameState f s).cur = some (renameRequest f r) ↔ s.cur = some r := by
  cases hc : s.cur with
  | none => simp [renameState, hc]
  | some q =>
    obtain ⟨o, p, n, t, k⟩ := q
    obtain ⟨o', p', n', t', k'⟩ := r
    simp [renameState, hc, renameRequest, hf.eq_iff]

/-- The owner of a wire command is the session that gives it. -/
theorem sessionOf_rename {a : Agent} (h : AgentClass.producer.admits a = true) :
    sessionOf (renameAgent f a) = f (sessionOf a) := by
  cases a with
  | producer o => rfl
  | host => cases h
  | dispatcher => cases h

/-- A wire command makes a request of the session that gives it and enqueues it. -/
theorem rename_issue {i : Instr} {s : State} (r : SessionId → PendingRequest) (h : permitted i s.agent = true)
    (hp : invokedBy i = .producer) (hr : ∀ o, renameRequest f (r o) = r (f o)) :
    renameStep f (enqueueRequest (r (sessionOf s.agent)) s) =
      enqueueRequest (r (sessionOf (renameState f s).agent)) (renameState f s) := by
  rw [permitted, hp] at h
  rw [rename_enqueueRequest, hr]
  exact congrArg (fun o => enqueueRequest (r o) (renameState f s)) (sessionOf_rename h).symm

theorem rename_execSend (o : SessionId) (p : List Byte) (n : Nat) (t : Option ChannelTag) (s : State) :
    renameStep f (execSend o p n t s) = execSend (f o) p n t (renameState f s) := by
  have hs : renameState f { s.enqueued (genericRequest o p n (t.getD .other)) with
        sends := s.sends ++ [⟨s.agent, o, s.enqSeq⟩] } =
      { (renameState f s).enqueued (genericRequest (f o) p n (t.getD .other)) with
        sends := (renameState f s).sends ++ [⟨(renameState f s).agent, f o, (renameState f s).enqSeq⟩] } := by
    simp [renameState, State.enqueued, numbered, genericRequest, renameRequest, renameEvent, renameWait]
  refine rename_guarded fun _ => ?_
  rw [rename_ite, rename_ite, rename_ite, rename_refuse, rename_refuse, rename_notEnabled, rename_underWay, hs,
    queueFull_rename]
  rfl

theorem rename_execDfetch (s : State) : renameStep f (execDfetch s) = execDfetch (renameState f s) := by
  refine rename_guarded fun _ => ?_
  rw [rename_ite, rename_notEnabled]
  have hq : (renameState f s).queue = s.queue.map (renameRequest f) := rfl
  rw [hq]
  cases s.queue with
  | nil => rfl
  | cons r q =>
    simp only [List.map_cons, rename_reply]
    simp [renameState, renameEvent, renameReply, renameRequest]
    rfl

theorem rename_execDretry (s : State) : renameStep f (execDretry s) = execDretry (renameState f s) := by
  have hc : (renameState f s).curSeq = s.curSeq := by
    simp only [State.curSeq, renameState]
    cases s.cur <;> rfl
  refine rename_guarded fun _ => ?_
  rw [rename_ite, rename_ite, rename_notEnabled, rename_reply, rename_reply, hc]
  simp only [renameState, State.raise, List.map_append, List.map_cons, List.map_nil, renameEvent]
  rfl

theorem rename_execDattempt (s : State) : renameStep f (execDattempt s) = execDattempt (renameState f s) := by
  refine rename_guarded fun _ => ?_
  have hd : (renameState f s).dstate = s.dstate := rfl
  have hc : (renameState f s).cur = s.cur.map (renameRequest f) := rfl
  rw [hd, hc]
  cases s.dstate <;> cases s.cur <;> try rfl
  simp only [Option.map_some]
  rw [rename_ite, rename_refuse, rename_beginExchange]
  rfl

theorem rename_execDdeliver (s : State) : renameStep f (execDdeliver s) = execDdeliver (renameState f s) := by
  refine rename_guarded fun _ => ?_
  have hd : (renameState f s).dstate = s.dstate := rfl
  have hc : (renameState f s).cur = s.cur.map (renameRequest f) := rfl
  rw [hd, hc]
  cases s.dstate <;> cases s.cur <;> try rfl
  simp only [Option.map_some]
  exact rename_routeBack (fun _ => rfl) s

theorem rename_execExchange (b : List Byte) (n : Nat) (s : State) :
    renameStep f (execExchange b n s) = execExchange b n (renameState f s) := by
  refine rename_guarded fun _ => ?_
  have hd : (renameState f s).dstate = s.dstate := rfl
  have hc : (renameState f s).cur = s.cur.map (renameRequest f) := rfl
  rw [rename_ite, rename_refuse, hd, hc]
  congr 1
  cases s.dstate <;> cases s.cur <;> try rfl
  simp only [Option.map_some]
  rw [rename_ite, rename_notEnabled, rename_beginExchange]
  rfl

theorem rename_execDecode (hf : Function.Injective f) (r : PendingRequest) (buf : List Byte) (c : Nat) (s : State) :
    renameStep f (execDecode r buf c s) = execDecode (renameRequest f r) buf c (renameState f s) := by
  refine rename_guarded fun _ => ?_
  rw [rename_ite, rename_notEnabled, rename_routeBack (fun _ => rfl)]
  simp only [cur_rename hf]
  rfl

theorem rename_execConnect (s : State) : renameStep f (execConnect s) = execConnect (renameState f s) := by
  have hb : renameState f s.connectBegun = (renameState f s).connectBegun := by
    simp [renameState, State.connectBegun, renameEvent]
  refine rename_guarded fun _ => ?_
  rw [rename_ite, rename_ite, rename_ite, rename_refuse, rename_reply, rename_underWay, rename_notEnabled, hb]
  rfl

theorem rename_execDispose (s : State) : renameStep f (execDispose s) = execDispose (renameState f s) := by
  have hs : renameState f { s with disposed := true, hist := s.hist ++ [.disposed] } =
      { renameState f s with disposed := true, hist := (renameState f s).hist ++ [.disposed] } := by
    simp [renameState, renameEvent]
  refine rename_guarded fun _ => ?_
  rw [rename_ite, rename_reply, rename_reply, hs]
  rfl

/-- The status registers show no session. -/
theorem view_rename (s : State) (k : Nat) : (renameState f s).view k = s.view k := by
  have hq : (renameState f s).queueStatus = s.queueStatus := by
    have he : (renameState f s).queueEmpty = s.queueEmpty := by simp [State.queueEmpty, renameState]
    have hl : (renameState f s).queue.length = s.queue.length := List.length_map _
    rw [State.queueStatus, State.queueStatus, he, hl, queueFull_rename]
  have hd : (renameState f s).dispStatus = s.dispStatus := by
    simp only [State.dispStatus, State.curKind, State.curExpLen, State.curValid, renameState]
    cases s.cur <;> rfl
  unfold State.view
  split
  · rfl
  · exact hq
  · exact hd
  all_goals rfl

/-- Every instruction commutes with every one-to-one renaming of the sessions. -/
theorem exec_rename (hf : Function.Injective f) (i : Instr) (s : State) :
    renameStep f (exec i s) = exec (renameInstr f i) (renameState f s) := by
  cases i with
  | move a0 a1 p =>
    refine rename_guarded fun h => ?_
    rw [rename_ite, rename_refuse, rename_issue (moveRequest · a0 a1 p) h rfl (fun _ => rfl)]
  | openCmd a0 a1 => exact rename_guarded fun h => rename_issue (openRequest · a0 a1) h rfl (fun _ => rfl)
  | closeCmd a0 a1 => exact rename_guarded fun h => rename_issue (closeRequest · a0 a1) h rfl (fun _ => rfl)
  | stopCmd a0 a1 => exact rename_guarded fun h => rename_issue (stopRequest · a0 a1) h rfl (fun _ => rfl)
  | setdir a0 a1 d =>
    refine rename_guarded fun h => ?_
    rw [rename_ite, rename_refuse, rename_issue (setdirRequest · a0 a1 d) h rfl (fun _ => rfl)]
  | qpos a0 a1 => exact rename_guarded fun h => rename_issue (qposRequest · a0 a1) h rfl (fun _ => rfl)
  | qstate a0 a1 => exact rename_guarded fun h => rename_issue (qstateRequest · a0 a1) h rfl (fun _ => rfl)
  | qdir a0 a1 => exact rename_guarded fun h => rename_issue (qdirRequest · a0 a1) h rfl (fun _ => rfl)
  | handshake a0 a1 => exact rename_guarded fun h => rename_issue (handshakeRequest · a0 a1) h rfl (fun _ => rfl)
  | register n0 n1 => exact rename_guarded fun h => rename_issue (registerRequest · n0 n1) h rfl (fun _ => rfl)
  | generic p n t =>
    refine rename_guarded fun h => ?_
    rw [rename_ite, rename_refuse, rename_issue (genericRequest · p n t) h rfl (fun _ => rfl)]
  | crcInit => exact rename_guarded fun _ => rfl
  | crcByte b => exact rename_guarded fun _ => rfl
  | crcRead => exact rename_guarded fun _ => rfl
  | checksum bs =>
    show renameStep f (execChecksum bs s) = execChecksum bs (renameState f s)
    rw [execChecksum, execChecksum]
    refine rename_guarded (i := .checksum bs) fun _ => ?_
    rw [rename_ite, rename_refuse]
    rfl
  | build p =>
    show renameStep f (execBuild p s) = execBuild p (renameState f s)
    rw [execBuild, execBuild]
    refine rename_guarded (i := .build p) fun _ => ?_
    rw [rename_ite, rename_refuse]
    rfl
  | expLen p hint => exact rename_guarded (i := .expLen p hint) (s := s) fun _ => rfl
  | mkMove o a0 a1 p =>
    refine rename_guarded fun _ => ?_
    rw [rename_ite, rename_refuse]
    rfl
  | mkOpen o a0 a1 => exact rename_guarded fun _ => rfl
  | mkClose o a0 a1 => exact rename_guarded fun _ => rfl
  | mkStop o a0 a1 => exact rename_guarded fun _ => rfl
  | mkSetdir o a0 a1 d =>
    refine rename_guarded fun _ => ?_
    rw [rename_ite, rename_refuse]
    rfl
  | mkQpos o a0 a1 => exact rename_guarded fun _ => rfl
  | mkQstate o a0 a1 => exact rename_guarded fun _ => rfl
  | mkQdir o a0 a1 => exact rename_guarded fun _ => rfl
  | mkHandshake o a0 a1 => exact rename_guarded fun _ => rfl
  | mkRegister o n0 n1 => exact rename_guarded fun _ => rfl
  | mkGeneric o p n t =>
    refine rename_guarded fun _ => ?_
    rw [rename_ite, rename_refuse]
    rfl
  | enqueue r => exact rename_guarded fun _ => rename_enqueueRequest r s
  | send o p n t => exact rename_execSend o p n t s
  | dispose => exact rename_execDispose s
  | dFetch => exact rename_execDfetch s
  | dSleep =>
    refine rename_guarded fun _ => ?_
    rw [rename_ite, rename_notEnabled]
    have hq : (renameState f s).queue = [] ↔ s.queue = [] := List.map_eq_nil_iff
    simp only [hq]
    rfl
  | dWake =>
    refine rename_guarded fun _ => ?_
    rw [rename_ite, rename_notEnabled]
    rfl
  | dAttempt => exact rename_execDattempt s
  | dRetry => exact rename_execDretry s
  | dDeliver => exact rename_execDdeliver s
  | dStop => exact rename_guarded fun _ => rename_stopDispatcher s
  | vBase buf c n => exact rename_guarded (i := .vBase buf c n) (s := s) fun _ => rfl
  | vCrc buf c => exact rename_guarded (i := .vCrc buf c) (s := s) fun _ => rfl
  | vAddr r buf => exact rename_guarded (i := .vAddr r buf) (s := s) fun _ => rfl
  | vEcho r buf => exact rename_guarded (i := .vEcho r buf) (s := s) fun _ => rfl
  | vRegack r buf => exact rename_guarded (i := .vRegack r buf) (s := s) fun _ => rfl
  | vSuccess r buf c => exact rename_guarded (i := .vSuccess r buf c) (s := s) fun _ => rfl
  | decPos r buf c => exact rename_guarded (i := .decPos r buf c) (s := s) fun _ => rename_decoderFor _ r _ s
  | decState r buf c => exact rename_guarded (i := .decState r buf c) (s := s) fun _ => rename_decoderFor _ r _ s
  | decDir r buf c => exact rename_guarded (i := .decDir r buf c) (s := s) fun _ => rename_decoderFor _ r _ s
  | decVersion r buf c => exact rename_guarded (i := .decVersion r buf c) (s := s) fun _ => rename_decoderFor _ r _ s
  | decRegack r buf c => exact rename_guarded (i := .decRegack r buf c) (s := s) fun _ => rename_decoderFor _ r _ s
  | decode r buf c => exact rename_execDecode hf r buf c s
  | connect => exact rename_execConnect s
  | disconnect q =>
    refine rename_guarded fun _ => ?_
    rw [rename_ite, rename_ite, rename_notEnabled, rename_underWay, rename_stopDispatcher]
    rfl
  | exchange b n => exact rename_execExchange b n s
  | readStatus k =>
    show renameStep f (execReadStatus k s) = execReadStatus k (renameState f s)
    rw [execReadStatus, execReadStatus]
    refine rename_guarded (i := .readStatus k) fun _ => ?_
    rw [rename_ite, rename_refuse, rename_reply, view_rename]
    rfl
  | uartEncode bs => exact rename_guarded (i := .uartEncode bs) (s := s) fun _ => rfl

end Sys2Proof.Machine
end

