-- ==== Sys2Proof/Laws/Steps.lean ====
section
/-! SUPPORT. What one step of the machine can do, said once: moves change the model's own fields only (SameCore), or take an
effect of an instruction (Effect) or the final step of a transport operation (Ending). The provers cite step_moves. -/

namespace Sys2Proof.Machine

/-- Two states with the same elements of R20, the same parameters and the same transport operation under way. -/
structure SameCore (s t : State) : Prop where
  crcAcc : t.crcAcc = s.crcAcc
  txb : t.txb = s.txb
  rxb : t.rxb = s.rxb
  rxCount : t.rxCount = s.rxCount
  queue : t.queue = s.queue
  enqSeq : t.enqSeq = s.enqSeq
  cur : t.cur = s.cur
  dstate : t.dstate = s.dstate
  attempt : t.attempt = s.attempt
  busState : t.busState = s.busState
  offlineReason : t.offlineReason = s.offlineReason
  portOpen : t.portOpen = s.portOpen
  tlock : t.tlock = s.tlock
  disposed : t.disposed = s.disposed
  lastCause : t.lastCause = s.lastCause
  log : t.log = s.log
  hist : t.hist = s.hist
  params : t.params = s.params
  xop : t.xop = s.xop

theorem SameCore.refl (s : State) : SameCore s s := ⟨rfl, rfl, rfl, rfl, rfl, rfl, rfl, rfl, rfl, rfl, rfl, rfl, rfl, rfl, rfl, rfl, rfl, rfl, rfl⟩

theorem SameCore.trans {s t u : State} (h : SameCore s t) (k : SameCore t u) : SameCore s u :=
  ⟨k.crcAcc.trans h.crcAcc,
    k.txb.trans h.txb,
    k.rxb.trans h.rxb,
    k.rxCount.trans h.rxCount,
    k.queue.trans h.queue,
    k.enqSeq.trans h.enqSeq,
    k.cur.trans h.cur,
    k.dstate.trans h.dstate,
    k.attempt.trans h.attempt,
    k.busState.trans h.busState,
    k.offlineReason.trans h.offlineReason,
    k.portOpen.trans h.portOpen,
    k.tlock.trans h.tlock,
    k.disposed.trans h.disposed,
    k.lastCause.trans h.lastCause,
    k.log.trans h.log,
    k.hist.trans h.hist,
    k.params.trans h.params,
    k.xop.trans h.xop⟩

theorem sameCore_withResult (s : State) (x : OpResult) : SameCore s (s.withResult x) :=
  ⟨rfl, rfl, rfl, rfl, rfl, rfl, rfl, rfl, rfl, rfl, rfl, rfl, rfl, rfl, rfl, rfl, rfl, rfl, rfl⟩

theorem sameCore_agent (s : State) (a : Agent) : SameCore s { s with agent := a } :=
  ⟨rfl, rfl, rfl, rfl, rfl, rfl, rfl, rfl, rfl, rfl, rfl, rfl, rfl, rfl, rfl, rfl, rfl, rfl, rfl⟩

theorem sameCore_inputs (s : State) (xs : List Input) : SameCore s { s with inputs := xs } :=
  ⟨rfl, rfl, rfl, rfl, rfl, rfl, rfl, rfl, rfl, rfl, rfl, rfl, rfl, rfl, rfl, rfl, rfl, rfl, rfl⟩

theorem sameCore_held (s : State) (hs : List HeldOp) : SameCore s { s with held := hs } :=
  ⟨rfl, rfl, rfl, rfl, rfl, rfl, rfl, rfl, rfl, rfl, rfl, rfl, rfl, rfl, rfl, rfl, rfl, rfl, rfl⟩

theorem sameCore_replied (s : State) (ws : List SendWait) (a : Agent) : SameCore s { s with sends := ws, agent := a } :=
  ⟨rfl, rfl, rfl, rfl, rfl, rfl, rfl, rfl, rfl, rfl, rfl, rfl, rfl, rfl, rfl, rfl, rfl, rfl, rfl⟩

theorem sameCore_connectReturns (s : State) (n : Nat) : SameCore s { s with connectReturns := n } :=
  ⟨rfl, rfl, rfl, rfl, rfl, rfl, rfl, rfl, rfl, rfl, rfl, rfl, rfl, rfl, rfl, rfl, rfl, rfl, rfl⟩

theorem sameCore_returned (s : State) (n : Nat) (a : Agent) : SameCore s { s with connectReturns := n, agent := a } :=
  ⟨rfl, rfl, rfl, rfl, rfl, rfl, rfl, rfl, rfl, rfl, rfl, rfl, rfl, rfl, rfl, rfl, rfl, rfl, rfl⟩

theorem sameCore_portName (s : State) (n : List Char) : SameCore s { s with portName := n } :=
  ⟨rfl, rfl, rfl, rfl, rfl, rfl, rfl, rfl, rfl, rfl, rfl, rfl, rfl, rfl, rfl, rfl, rfl, rfl, rfl⟩

theorem sameCore_afterLine (s : State) : SameCore s s.afterLine := by
  unfold State.afterLine
  split <;> exact ⟨rfl, rfl, rfl, rfl, rfl, rfl, rfl, rfl, rfl, rfl, rfl, rfl, rfl, rfl, rfl, rfl, rfl, rfl, rfl⟩

theorem sameCore_afterPort (s : State) : SameCore s s.afterPort := by
  unfold State.afterPort
  split <;> exact ⟨rfl, rfl, rfl, rfl, rfl, rfl, rfl, rfl, rfl, rfl, rfl, rfl, rfl, rfl, rfl, rfl, rfl, rfl, rfl⟩

/-- The final steps of the transport operations (R266, R268, R270, R227), each with the operation that was under way. -/
inductive Ending (s : State) : State → Prop
  | opened (hx : s.xop = .connect) : Ending s s.connectOpened
  | failed (y : OfflineReason) (c : Cause) (hx : s.xop = .connect) (hy : y ≠ .none) : Ending s (s.connectFailed y c)
  | disconnected (hx : s.xop = .disconnect) :
      Ending s
        { s with
          portOpen := false
          busState := .offline
          offlineReason := .disconnected
          hist := s.hist ++ [.bus .offline .disconnected]
          tlock := .free
          xop := .idle }
  | exchanged (n : Nat) (b : Bool) (a : LineAnswer) (hx : s.xop = .exchange n b) (hb : s.cur = none) :
      Ending s (s.exchangeAnswered n a)
  | attempted (n : Nat) (b : Bool) (r : PendingRequest) (a : LineAnswer) (hx : s.xop = .exchange n b) (hr : s.cur = some r) :
      Ending s ((s.exchangeAnswered n a).attemptEnded r (outcomeOf a))

/-- What a move can do. -/
def Moves (s t : State) : Prop :=
  ∃ u v, SameCore s u ∧ (v = u ∨ Effect u v ∨ Ending u v) ∧ SameCore v t

theorem moves_of_sameCore {s t : State} (h : SameCore s t) : Moves s t :=
  ⟨t, t, h, .inl rfl, .refl t⟩

theorem Moves.before {s u t : State} (h : SameCore s u) (k : Moves u t) : Moves s t := by
  obtain ⟨a, b, hua, hab, hbt⟩ := k
  exact ⟨a, b, h.trans hua, hab, hbt⟩

theorem Moves.after {s u t : State} (h : Moves s u) (k : SameCore u t) : Moves s t := by
  obtain ⟨a, b, hua, hab, hbt⟩ := h
  exact ⟨a, b, hua, hab, hbt.trans k⟩

theorem exec_moves {i : Instr} {s t : State} (h : exec i s = .next t) : Moves s t := by
  obtain ⟨u, x, hu, rfl⟩ := exec_effect h
  exact ⟨s, u, .refl s, .inr (.inl hu), sameCore_withResult u x⟩

theorem notEnabled_moves {s t : State} (h : notEnabled s = .next t) : Moves s t := by
  cases h
  exact moves_of_sameCore (sameCore_withResult s _)

theorem reply_moves {s u t : State} {v : Reply} (hu : Ending s u) (h : reply v u = .next t) : Moves s t := by
  cases h
  exact ⟨s, u, .refl s, .inr (.inr hu), sameCore_withResult u _⟩

theorem replySend_moves {k : Nat} {s t : State} (h : replySend k s = .next t) : Moves s t := by
  unfold replySend at h
  split at h
  · rename_i w _
    split at h
    · cases h
      exact moves_of_sameCore ((sameCore_replied s _ w.agent).trans (sameCore_withResult _ _))
    · exact (notEnabled_moves h).before (sameCore_agent s w.agent)
  · exact notEnabled_moves h

theorem xop_sameCore {s u : State} (h : SameCore s u) {x : TransportOp} (hx : s.xop = x) : u.xop = x := h.xop.trans hx

theorem connectEnd_moves {s t : State} (hx : s.xop = .connect) (h : connectEnd s = .next t) : Moves s t := by
  have hp : SameCore s s.afterPort := sameCore_afterPort s
  unfold connectEnd at h
  split at h
  · exact reply_moves (.failed _ _ hx (by decide)) h
  · split at h
    · exact (reply_moves (.opened (xop_sameCore hp hx)) h).before hp
    · exact (reply_moves (.failed _ _ (xop_sameCore hp hx) (by decide)) h).before hp
    · exact (reply_moves (.failed _ _ (xop_sameCore hp hx) (by decide)) h).before hp
    · exact (reply_moves (.failed _ _ (xop_sameCore hp hx) (by decide)) h).before hp
    · exact (reply_moves (.failed _ _ (xop_sameCore hp hx) (by decide)) h).before hp

theorem disconnectEnd_moves {s t : State} (hx : s.xop = .disconnect) (h : disconnectEnd s = .next t) : Moves s t :=
  reply_moves (.disconnected hx) h

theorem exchangeEnd_moves {n : Nat} {b : Bool} {s t : State} (hx : s.xop = .exchange n b)
    (h : exchangeEnd n b s = .next t) : Moves s t := by
  have hl : SameCore s s.afterLine := sameCore_afterLine s
  unfold exchangeEnd at h
  dsimp only at h
  cases hc : s.cur with
  | none =>
    rw [hc] at h
    exact (reply_moves (.exchanged n b s.lineAnswer (xop_sameCore hl hx) (hl.cur.trans hc)) h).before hl
  | some r =>
    rw [hc] at h
    exact (reply_moves (.attempted n b r s.lineAnswer (xop_sameCore hl hx) (hl.cur.trans hc)) h).before hl

theorem finishTransport_moves {s t : State} (h : finishTransport s = .next t) : Moves s t := by
  unfold finishTransport at h
  split at h
  · exact notEnabled_moves h
  · rename_i hx
    exact (connectEnd_moves (s := { s with agent := .host }) hx h).before (sameCore_agent s _)
  · rename_i hx
    exact (disconnectEnd_moves (s := { s with agent := .host }) hx h).before (sameCore_agent s _)
  · rename_i n b hx
    exact (exchangeEnd_moves (s := { s with agent := .dispatcher }) hx h).before (sameCore_agent s _)

/-- Only a CONNECT returns later than its step (R351; log 22). -/
@[simp] theorem returnAfter_of_ne {i : Instr} (h : i ≠ .connect) (o : Step) : returnAfter i o = o := by
  cases o <;> simp [returnAfter, noOpWaits, h]

theorem returnAfter_of_waits {i : Instr} {s : State} (h : noOpWaits i s = true) :
    returnAfter i (.next s) = underWay { s with connectReturns := s.connectReturns + 1 } := by
  simp [returnAfter, h]

theorem returnAfter_of_not_waits {i : Instr} {s : State} (h : noOpWaits i s = false) :
    returnAfter i (.next s) = .next s := by
  simp [returnAfter, h]

theorem returnAfter_moves {i : Instr} {o : Step} {s t : State} (ho : ∀ u, o = .next u → Moves s u)
    (h : returnAfter i o = .next t) : Moves s t := by
  cases o with
  | next u =>
    simp only [returnAfter] at h
    split at h
    · cases h
      exact (ho u rfl).after ((sameCore_connectReturns u _).trans (sameCore_withResult _ _))
    · cases h
      exact ho _ rfl
  | fault f => cases h
  | refused r => cases h

theorem returnConnect_moves {s t : State} (h : returnConnect s = .next t) : Moves s t := by
  unfold returnConnect at h
  split at h
  · cases h
    exact moves_of_sameCore ((sameCore_returned s _ .host).trans (sameCore_withResult _ _))
  · exact (notEnabled_moves h).before (sameCore_agent s .host)

theorem runTransaction_moves {a : Agent} {x : Transaction} {s t : State} (h : runTransaction a x s = .next t) :
    Moves s t := by
  unfold runTransaction at h
  split at h
  · exact (returnAfter_moves (fun u hu => exec_moves hu) h).before (sameCore_agent s a)
  · cases h
    exact Moves.before (sameCore_agent s a) ⟨_, _, .refl _, .inr (.inl (.raised .badOpcode _)), sameCore_withResult _ _⟩
  · cases h

theorem heldAfter_moves {a : Agent} {x : Transaction} {o : Step} {s t : State} (ho : ∀ u, o = .next u → Moves s u)
    (h : heldAfter a x o = .next t) : Moves s t := by
  cases o with
  | next u =>
    simp only [heldAfter] at h
    split at h
    · cases h
      exact (ho u rfl).after (sameCore_held u _)
    · cases h
      exact ho _ rfl
  | fault f => cases h
  | refused r => cases h

theorem releasedAfter_moves {k : Nat} {o : Step} {s t : State} (ho : ∀ u, o = .next u → Moves s u)
    (h : releasedAfter k o = .next t) : Moves s t := by
  cases o with
  | next u =>
    simp only [releasedAfter] at h
    split at h
    · cases h
      exact ho _ rfl
    · cases h
      exact (ho u rfl).after (sameCore_held u _)
  | fault f => cases h
  | refused r => cases h

theorem invokeStep_moves {a : Agent} {x : Transaction} {s t : State} (h : invokeStep a x s = .next t) : Moves s t := by
  unfold invokeStep at h
  split at h
  · exact heldAfter_moves (fun u hu => (notEnabled_moves hu).before (sameCore_agent s a)) h
  · exact heldAfter_moves (fun u hu => runTransaction_moves hu) h

theorem retryHeld_moves {k : Nat} {s t : State} (h : retryHeld k s = .next t) : Moves s t := by
  unfold retryHeld at h
  split at h
  · rename_i e _
    split at h
    · exact (notEnabled_moves h).before (sameCore_agent s e.agent)
    · exact releasedAfter_moves (fun u hu => runTransaction_moves hu) h
  · exact notEnabled_moves h

theorem dispatcherStep_moves {s t : State} (h : dispatcherStep s = .next t) : Moves s t := by
  unfold dispatcherStep at h
  split at h
  · exact (exec_moves h).before (sameCore_agent s _)
  · exact (notEnabled_moves h).before (sameCore_agent s _)

theorem idleStep_moves {s t : State} (h : idleStep s = .next t) : Moves s t := by
  unfold idleStep at h
  split at h
  · exact finishTransport_moves h
  · split at h
    · exact returnConnect_moves h
    · split at h
      · exact retryHeld_moves h
      · exact replySend_moves h
      · exact dispatcherStep_moves h

theorem takeInput_moves {x : Input} {s t : State} (h : takeInput x s = .next t) : Moves s t := by
  cases x with
  | invoke a t => exact invokeStep_moves h
  | retry k => exact retryHeld_moves h
  | finish => exact finishTransport_moves h
  | reply k => exact replySend_moves h
  | dispatch => exact dispatcherStep_moves h
  | connectReturn => exact returnConnect_moves h
  | configure n =>
    cases h
    exact moves_of_sameCore (sameCore_portName s n)

/-- Whatever the next move is: if step answers a next state, it is one of these. -/
theorem step_moves {s t : State} (h : step s = .next t) : Moves s t := by
  unfold step at h
  split at h
  · exact idleStep_moves h
  · exact (takeInput_moves h).before (sameCore_inputs s _)

end Sys2Proof.Machine
end

