-- ==== Sys2Proof/Laws/Transport.lean ====
section
/-! SUPPORT. What the end of an exchange and the retry decision can do, said once each (45_serializer.md R270 to R273,
44_queue_dispatcher.md R227). -/

namespace Sys2Proof.Machine

/-- The retry decision counts the attempt and goes to DELIVER or BACKOFF; it goes to BACKOFF only with attempts left and
before DISPOSE, and it raises at most one cause. -/
theorem attemptEnded_cases (t : State) (r : PendingRequest) (o : ExchangeOutcome) :
    t.attemptEnded r o = { t with attempt := t.attempt + 1, dstate := .deliver } ∨
    (t.attempt + 1 < t.params.maxAttempts ∧ t.disposed = false ∧
      t.attemptEnded r o = { t with attempt := t.attempt + 1, dstate := .backoff }) ∨
    ∃ c : Cause, t.attemptEnded r o = { t.raise c r.seq [] with attempt := t.attempt + 1, dstate := .deliver } := by
  unfold State.attemptEnded
  split
  · exact .inr (.inr ⟨_, rfl⟩)
  · split
    · exact .inl rfl
    · split
      · exact .inr (.inr ⟨_, rfl⟩)
      · rename_i h
        rw [not_or] at h
        exact .inr (.inl ⟨by omega, by simpa using h.2, rfl⟩)

/-- Step X2 writes RXB, RX_COUNT and the history, frees TLOCK, and leaves the bus alone or takes it OFFLINE with the cause
IO_ERROR_EXCHANGE. -/
theorem exchangeAnswered_cases (s : State) (n : Nat) (a : LineAnswer) :
    (∃ buf count, buf.length = n ∧ count ≤ n ∧
      s.exchangeAnswered n a =
        { s with rxb := buf, rxCount := count, hist := s.hist ++ [.rx buf count], tlock := .free, xop := .idle }) ∨
    s.exchangeAnswered n a =
      { s with
        rxb := zeros n
        rxCount := 0
        portOpen := false
        busState := .offline
        offlineReason := .ioErrorExchange
        lastCause := Cause.ioErrorExchange.code
        log := s.log ++ [⟨Cause.ioErrorExchange.code, s.curSeq, []⟩]
        hist := s.hist ++
          [.bus .offline .ioErrorExchange, .logged Cause.ioErrorExchange.code s.curSeq [], .rx (zeros n) 0]
        tlock := .free
        xop := .idle } := by
  cases a with
  | bytes avail =>
    refine .inl ⟨fitBuffer n avail, min avail.length n, ?_, Nat.min_le_right _ _, rfl⟩
    simp only [fitBuffer, zeros, List.length_append, List.length_take, List.length_replicate]
    omega
  | ioFailure =>
    refine .inr ?_
    simp [State.exchangeAnswered, State.raise, State.emit]
  | fault => exact .inl ⟨zeros n, 0, by simp [zeros], Nat.zero_le _, rfl⟩

end Sys2Proof.Machine
end

