-- ==== Sys2Proof/Tests/Slice0.lean ====
section
/-! SUPPORT. The model's own tests, of 95_test_vectors.md where it has the case: the checks of WellFormed refuse an
ill-formed term each; a word written out from R96 or R102 (operand bytes: log 3) decodes to its instruction, for every
constructor; a few vectors; and for every statement with hypotheses a state and operands that meet them
(test_meets_<statement>). -/

namespace Sys2Proof.Tests

open Sys2Proof Sys2Proof.Machine Sys2Proof.Claim

/-- Two sessions. -/
def s1 : SessionId := ⟨[0x01#8]⟩
def s7 : SessionId := ⟨[0x07#8]⟩

/-! ## WellFormed refuses -/

theorem test_wellFormed_natOk : natOk 4294967296 = false := by decide
theorem test_wellFormed_bytesOk : bytesOk (List.replicate 4294967296 0x00#8) = false := by
  rw [bytesOk, List.length_replicate, test_wellFormed_natOk]
theorem test_wellFormed_optNatOk : optNatOk (some 4294967296) = false := by decide
theorem test_wellFormed_sessionOk : sessionOk ⟨List.replicate 4294967296 0x00#8⟩ = false := test_wellFormed_bytesOk
theorem test_wellFormed_requestOk_owner :
    requestOk ⟨⟨List.replicate 4294967296 0x00#8⟩, [], 1, .other, none⟩ = false := by
  rw [requestOk, test_wellFormed_sessionOk]
  rfl
theorem test_wellFormed_requestOk_payload :
    requestOk ⟨s1, List.replicate 4294967296 0x00#8, 1, .other, none⟩ = false := by
  rw [requestOk, test_wellFormed_bytesOk, Bool.and_false]
  rfl
theorem test_wellFormed_requestOk_expLen : requestOk ⟨s1, [], 4294967296, .other, none⟩ = false := by decide
theorem test_wellFormed_requestOk_seq : requestOk ⟨s1, [], 1, .other, some 4294967296⟩ = false := by decide
theorem test_wellFormed_generic_of_a_row :
    Instr.wellFormed (.generic [0x55#8, 0x01#8, 0x02#8, 0x03#8, 0x01#8] 7 .control) = false := by decide
theorem test_wellFormed_generic_too_long :
    Instr.wellFormed (.generic (List.replicate 254 0x00#8) 7 .other) = false := by decide +kernel
theorem test_wellFormed_readStatus : Instr.wellFormed (.readStatus 4294967296) = false := by decide
theorem test_wellFormed_expLen_hint : Instr.wellFormed (.expLen [] (some 4294967296)) = false := by decide
theorem test_wellFormed_vBase_count : Instr.wellFormed (.vBase [] 4294967296 1) = false := by decide
theorem test_wellFormed_mkMove_owner :
    Instr.wellFormed (.mkMove ⟨List.replicate 4294967296 0x00#8⟩ 0x01#8 0x02#8 0x37#8) = false := test_wellFormed_bytesOk

/-! ## Decoding: the wire commands of R96 -/

theorem test_decode_move :
    decode (.wire [0x55#8, 0x01#8, 0x02#8, 0x03#8, 0x04#8, 0x37#8] 8 .control) =
      .ok (.move 0x01#8 0x02#8 0x37#8) := by decide
theorem test_decode_openCmd :
    decode (.wire [0x55#8, 0x01#8, 0x02#8, 0x03#8, 0x01#8] 7 .control) = .ok (.openCmd 0x01#8 0x02#8) := by decide
theorem test_decode_closeCmd :
    decode (.wire [0x55#8, 0x01#8, 0x02#8, 0x03#8, 0x02#8] 7 .control) = .ok (.closeCmd 0x01#8 0x02#8) := by decide
theorem test_decode_stopCmd :
    decode (.wire [0x55#8, 0x01#8, 0x02#8, 0x03#8, 0x03#8] 7 .control) = .ok (.stopCmd 0x01#8 0x02#8) := by decide
theorem test_decode_setdir :
    decode (.wire [0x55#8, 0x01#8, 0x02#8, 0x02#8, 0x03#8, 0x01#8, 0x01#8] 9 .direction) =
      .ok (.setdir 0x01#8 0x02#8 0x01#8) := by decide
theorem test_decode_qpos :
    decode (.wire [0x55#8, 0x01#8, 0x02#8, 0x01#8, 0x02#8, 0x01#8] 8 .position) = .ok (.qpos 0x01#8 0x02#8) := by decide
theorem test_decode_qstate :
    decode (.wire [0x55#8, 0x01#8, 0x02#8, 0x01#8, 0x05#8, 0x01#8] 8 .state) = .ok (.qstate 0x01#8 0x02#8) := by decide
theorem test_decode_qdir :
    decode (.wire [0x55#8, 0x01#8, 0x02#8, 0x01#8, 0x03#8, 0x01#8] 8 .direction) = .ok (.qdir 0x01#8 0x02#8) := by decide
theorem test_decode_handshake :
    decode (.wire [0x55#8, 0x01#8, 0x02#8, 0x01#8, 0xFE#8, 0x01#8] 8 .version) =
      .ok (.handshake 0x01#8 0x02#8) := by decide
theorem test_decode_register :
    decode (.wire [0x55#8, 0x00#8, 0x00#8, 0x02#8, 0x00#8, 0x02#8, 0x01#8, 0x02#8] 15 .programming) =
      .ok (.register 0x01#8 0x02#8) := by decide
/-- V-FB-16, V-FB-17, V-FB-18: payloads next to a row are GENERIC. -/
theorem test_decode_generic :
    decode (.wire [0x55#8, 0x01#8, 0x02#8, 0x01#8, 0x02#8, 0x02#8] 8 .other) =
      .ok (.generic [0x55#8, 0x01#8, 0x02#8, 0x01#8, 0x02#8, 0x02#8] 8 .other) ∧
    decode (.wire [0x55#8, 0x01#8, 0x02#8, 0x02#8, 0x00#8, 0x02#8, 0x01#8, 0x02#8] 10 .other) =
      .ok (.generic [0x55#8, 0x01#8, 0x02#8, 0x02#8, 0x00#8, 0x02#8, 0x01#8, 0x02#8] 10 .other) ∧
    decode (.wire [0x54#8, 0x01#8, 0x02#8, 0x03#8, 0x01#8] 7 .other) =
      .ok (.generic [0x54#8, 0x01#8, 0x02#8, 0x03#8, 0x01#8] 7 .other) := by decide

/-! ## Decoding: the operations of R102, the op number first -/

/-- A QPOS request (R32, R159) of session 1, with sequence number 3. -/
def query : PendingRequest := ⟨s1, [0x55#8, 0x01#8, 0x02#8, 0x01#8, 0x02#8, 0x01#8], 8, .position, some 3⟩

/-- The operand bytes of `query`: owner, payload, exp_len, target, seq (log 3). -/
def queryBytes : List Byte :=
  [0x01#8, 0x00#8, 0x00#8, 0x00#8, 0x01#8, 0x06#8, 0x00#8, 0x00#8, 0x00#8, 0x55#8, 0x01#8, 0x02#8, 0x01#8, 0x02#8, 0x01#8,
    0x08#8, 0x00#8, 0x00#8, 0x00#8, 0x00#8, 0x01#8, 0x03#8, 0x00#8, 0x00#8, 0x00#8]

theorem test_decode_crcInit : decode (.op [0x01#8]) = .ok (.crcInit) := by decide
theorem test_decode_crcByte : decode (.op [0x02#8, 0x55#8]) = .ok (.crcByte 0x55#8) := by decide
theorem test_decode_crcRead : decode (.op [0x03#8]) = .ok (.crcRead) := by decide
theorem test_decode_checksum :
    decode (.op [0x04#8, 0x02#8, 0x00#8, 0x00#8, 0x00#8, 0xAA#8, 0xBB#8]) = .ok (.checksum [0xAA#8, 0xBB#8]) := by decide
theorem test_decode_build :
    decode (.op [0x10#8, 0x02#8, 0x00#8, 0x00#8, 0x00#8, 0xAA#8, 0xBB#8]) = .ok (.build [0xAA#8, 0xBB#8]) := by decide
theorem test_decode_expLen :
    decode (.op [0x11#8, 0x02#8, 0x00#8, 0x00#8, 0x00#8, 0xAA#8, 0xBB#8, 0x01#8, 0x63#8, 0x00#8, 0x00#8, 0x00#8]) =
      .ok (.expLen [0xAA#8, 0xBB#8] (some 99)) := by decide
theorem test_decode_mkMove :
    decode (.op [0x12#8, 0x01#8, 0x00#8, 0x00#8, 0x00#8, 0x07#8, 0x01#8, 0x02#8, 0x37#8]) =
      .ok (.mkMove s7 0x01#8 0x02#8 0x37#8) := by decide
theorem test_decode_mkOpen :
    decode (.op [0x13#8, 0x01#8, 0x00#8, 0x00#8, 0x00#8, 0x07#8, 0x01#8, 0x02#8]) = .ok (.mkOpen s7 0x01#8 0x02#8) := by decide
theorem test_decode_mkClose :
    decode (.op [0x14#8, 0x01#8, 0x00#8, 0x00#8, 0x00#8, 0x07#8, 0x01#8, 0x02#8]) = .ok (.mkClose s7 0x01#8 0x02#8) := by decide
theorem test_decode_mkStop :
    decode (.op [0x15#8, 0x01#8, 0x00#8, 0x00#8, 0x00#8, 0x07#8, 0x01#8, 0x02#8]) = .ok (.mkStop s7 0x01#8 0x02#8) := by decide
theorem test_decode_mkSetdir :
    decode (.op [0x16#8, 0x01#8, 0x00#8, 0x00#8, 0x00#8, 0x07#8, 0x01#8, 0x02#8, 0x01#8]) =
      .ok (.mkSetdir s7 0x01#8 0x02#8 0x01#8) := by decide
theorem test_decode_mkQpos :
    decode (.op [0x17#8, 0x01#8, 0x00#8, 0x00#8, 0x00#8, 0x07#8, 0x01#8, 0x02#8]) = .ok (.mkQpos s7 0x01#8 0x02#8) := by decide
theorem test_decode_mkQstate :
    decode (.op [0x18#8, 0x01#8, 0x00#8, 0x00#8, 0x00#8, 0x07#8, 0x01#8, 0x02#8]) = .ok (.mkQstate s7 0x01#8 0x02#8) := by decide
theorem test_decode_mkQdir :
    decode (.op [0x19#8, 0x01#8, 0x00#8, 0x00#8, 0x00#8, 0x07#8, 0x01#8, 0x02#8]) = .ok (.mkQdir s7 0x01#8 0x02#8) := by decide
theorem test_decode_mkHandshake :
    decode (.op [0x1A#8, 0x01#8, 0x00#8, 0x00#8, 0x00#8, 0x07#8, 0x01#8, 0x02#8]) =
      .ok (.mkHandshake s7 0x01#8 0x02#8) := by decide
theorem test_decode_mkRegister :
    decode (.op [0x1B#8, 0x01#8, 0x00#8, 0x00#8, 0x00#8, 0x07#8, 0x01#8, 0x02#8]) = .ok (.mkRegister s7 0x01#8 0x02#8) := by decide
theorem test_decode_mkGeneric :
    decode (.op [0x1C#8, 0x01#8, 0x00#8, 0x00#8, 0x00#8, 0x07#8, 0x02#8, 0x00#8, 0x00#8, 0x00#8, 0xAA#8, 0xBB#8, 0x05#8,
      0x01#8, 0x00#8, 0x00#8, 0x06#8]) =
      .ok (.mkGeneric s7 [0xAA#8, 0xBB#8] 261 .other) := by decide
theorem test_decode_enqueue : decode (.op ([0x20#8] ++ queryBytes)) = .ok (.enqueue query) := by decide
/-- With a target, without one, and with none where the operands end (R222). -/
theorem test_decode_send :
    decode (.op [0x21#8, 0x01#8, 0x00#8, 0x00#8, 0x00#8, 0x07#8, 0x02#8, 0x00#8, 0x00#8, 0x00#8, 0xAA#8, 0xBB#8, 0x05#8,
      0x01#8, 0x00#8, 0x00#8, 0x01#8, 0x02#8]) = .ok (.send s7 [0xAA#8, 0xBB#8] 261 (some .direction)) ∧
    decode (.op [0x21#8, 0x01#8, 0x00#8, 0x00#8, 0x00#8, 0x07#8, 0x02#8, 0x00#8, 0x00#8, 0x00#8, 0xAA#8, 0xBB#8, 0x05#8,
      0x01#8, 0x00#8, 0x00#8, 0x00#8]) = .ok (.send s7 [0xAA#8, 0xBB#8] 261 none) ∧
    decode (.op [0x21#8, 0x01#8, 0x00#8, 0x00#8, 0x00#8, 0x07#8, 0x02#8, 0x00#8, 0x00#8, 0x00#8, 0xAA#8, 0xBB#8, 0x05#8,
      0x01#8, 0x00#8, 0x00#8]) = .ok (.send s7 [0xAA#8, 0xBB#8] 261 none) := by decide
theorem test_decode_dispose : decode (.op [0x22#8]) = .ok (.dispose) := by decide
theorem test_decode_dFetch : decode (.op [0x28#8]) = .ok (.dFetch) := by decide
theorem test_decode_dSleep : decode (.op [0x29#8]) = .ok (.dSleep) := by decide
theorem test_decode_dWake : decode (.op [0x2A#8]) = .ok (.dWake) := by decide
theorem test_decode_dAttempt : decode (.op [0x2B#8]) = .ok (.dAttempt) := by decide
theorem test_decode_dRetry : decode (.op [0x2C#8]) = .ok (.dRetry) := by decide
theorem test_decode_dDeliver : decode (.op [0x2D#8]) = .ok (.dDeliver) := by decide
theorem test_decode_dStop : decode (.op [0x2E#8]) = .ok (.dStop) := by decide
theorem test_decode_vBase :
    decode (.op [0x30#8, 0x02#8, 0x00#8, 0x00#8, 0x00#8, 0xAA#8, 0xBB#8, 0x02#8, 0x00#8, 0x00#8, 0x00#8, 0x05#8,
      0x01#8, 0x00#8, 0x00#8]) =
      .ok (.vBase [0xAA#8, 0xBB#8] 2 261) := by decide
theorem test_decode_vCrc :
    decode (.op [0x31#8, 0x02#8, 0x00#8, 0x00#8, 0x00#8, 0xAA#8, 0xBB#8, 0x02#8, 0x00#8, 0x00#8, 0x00#8]) =
      .ok (.vCrc [0xAA#8, 0xBB#8] 2) := by decide
theorem test_decode_vAddr :
    decode (.op ([0x32#8] ++ queryBytes ++ [0x02#8, 0x00#8, 0x00#8, 0x00#8, 0xAA#8, 0xBB#8])) =
      .ok (.vAddr query [0xAA#8, 0xBB#8]) := by decide
theorem test_decode_vEcho :
    decode (.op ([0x33#8] ++ queryBytes ++ [0x02#8, 0x00#8, 0x00#8, 0x00#8, 0xAA#8, 0xBB#8])) =
      .ok (.vEcho query [0xAA#8, 0xBB#8]) := by decide
theorem test_decode_vRegack :
    decode (.op ([0x34#8] ++ queryBytes ++ [0x02#8, 0x00#8, 0x00#8, 0x00#8, 0xAA#8, 0xBB#8])) =
      .ok (.vRegack query [0xAA#8, 0xBB#8]) := by decide
theorem test_decode_vSuccess :
    decode (.op ([0x35#8] ++ queryBytes ++ [0x02#8, 0x00#8, 0x00#8, 0x00#8, 0xAA#8, 0xBB#8, 0x02#8, 0x00#8, 0x00#8,
      0x00#8])) =
      .ok (.vSuccess query [0xAA#8, 0xBB#8] 2) := by decide
theorem test_decode_decPos :
    decode (.op ([0x38#8] ++ queryBytes ++ [0x02#8, 0x00#8, 0x00#8, 0x00#8, 0xAA#8, 0xBB#8, 0x02#8, 0x00#8, 0x00#8,
      0x00#8])) =
      .ok (.decPos query [0xAA#8, 0xBB#8] 2) := by decide
theorem test_decode_decState :
    decode (.op ([0x39#8] ++ queryBytes ++ [0x02#8, 0x00#8, 0x00#8, 0x00#8, 0xAA#8, 0xBB#8, 0x02#8, 0x00#8, 0x00#8,
      0x00#8])) =
      .ok (.decState query [0xAA#8, 0xBB#8] 2) := by decide
theorem test_decode_decDir :
    decode (.op ([0x3A#8] ++ queryBytes ++ [0x02#8, 0x00#8, 0x00#8, 0x00#8, 0xAA#8, 0xBB#8, 0x02#8, 0x00#8, 0x00#8,
      0x00#8])) =
      .ok (.decDir query [0xAA#8, 0xBB#8] 2) := by decide
theorem test_decode_decVersion :
    decode (.op ([0x3B#8] ++ queryBytes ++ [0x02#8, 0x00#8, 0x00#8, 0x00#8, 0xAA#8, 0xBB#8, 0x02#8, 0x00#8, 0x00#8,
      0x00#8])) =
      .ok (.decVersion query [0xAA#8, 0xBB#8] 2) := by decide
theorem test_decode_decRegack :
    decode (.op ([0x3C#8] ++ queryBytes ++ [0x02#8, 0x00#8, 0x00#8, 0x00#8, 0xAA#8, 0xBB#8, 0x02#8, 0x00#8, 0x00#8,
      0x00#8])) =
      .ok (.decRegack query [0xAA#8, 0xBB#8] 2) := by decide
theorem test_decode_decode :
    decode (.op ([0x3D#8] ++ queryBytes ++ [0x02#8, 0x00#8, 0x00#8, 0x00#8, 0xAA#8, 0xBB#8, 0x02#8, 0x00#8, 0x00#8,
      0x00#8])) =
      .ok (.decode query [0xAA#8, 0xBB#8] 2) := by decide
theorem test_decode_connect : decode (.op [0x40#8]) = .ok (.connect) := by decide
theorem test_decode_disconnect : decode (.op [0x41#8, 0x01#8]) = .ok (.disconnect true) := by decide
theorem test_decode_exchange :
    decode (.op [0x42#8, 0x02#8, 0x00#8, 0x00#8, 0x00#8, 0xAA#8, 0xBB#8, 0x05#8, 0x01#8, 0x00#8, 0x00#8]) =
      .ok (.exchange [0xAA#8, 0xBB#8] 261) := by decide
theorem test_decode_readStatus : decode (.op [0x43#8, 0x03#8, 0x00#8, 0x00#8, 0x00#8]) = .ok (.readStatus 3) := by decide
theorem test_decode_uartEncode :
    decode (.op [0x44#8, 0x02#8, 0x00#8, 0x00#8, 0x00#8, 0xAA#8, 0xBB#8]) =
      .ok (.uartEncode [0xAA#8, 0xBB#8]) := by decide

/-- What is no transaction is refused by name (R104, R33; log 3, log 16). -/
theorem test_decode_errors :
    decode (.op [0x2F#8]) = .error (.unassignedOp 0x2F#8) ∧ decode (.op []) = .error .noOp ∧
    decode (.op [0x02#8]) = .error .truncated ∧ decode (.op [0x41#8, 0x02#8]) = .error (.badBool 0x02#8) ∧
    decode (.op [0x11#8, 0x00#8, 0x00#8, 0x00#8, 0x00#8, 0x02#8]) = .error (.badOption 0x02#8) ∧
    decode (.op ([0x1C#8] ++ List.replicate 12 0x00#8 ++ [0x07#8])) = .error (.badTag 0x07#8) := by decide

/-- Rows of spec/opcode_table.json by their match words (log 4). -/
theorem test_decodeTableWord :
    decodeTableWord 48 0x550102030437 = some (.move 0x01#8 0x02#8 0x37#8) ∧
    decodeTableWord 64 0x5500000200020102 = some (.register 0x01#8 0x02#8) ∧
    decodeTableWord 8 0x29 = some .dSleep ∧ decodeTableWord 8 0x2F = none := by decide

/-! ## Vectors of 95_test_vectors.md -/

/-- V-CRC-09, V-CRC-17. -/
theorem test_crc16_vectors :
    crc16 [0x02#8, 0x07#8] = 0x1241#16 ∧ crc16 [0x55#8, 0x01#8, 0x02#8, 0x03#8, 0x04#8, 0x37#8] = 0x7083#16 := by decide +kernel

/-- V-CRC-19: the trailer of REGISTER 0x0102. -/
theorem test_frame_register :
    frameOf (registerRequest s1 0x01#8 0x02#8).payload =
      [0x55#8, 0x00#8, 0x00#8, 0x02#8, 0x00#8, 0x02#8, 0x01#8, 0x02#8, 0xDD#8, 0x59#8] := by decide +kernel

/-- V-FB-01 to V-FB-04. -/
theorem test_expLen :
    expLenOf [0x55#8, 0x00#8, 0x00#8, 0x02#8, 0x00#8, 0x02#8, 0x01#8, 0x02#8] none = 15 ∧
    expLenOf [0x55#8, 0x01#8, 0x02#8, 0x03#8, 0x01#8] (some 99) = 7 ∧
    expLenOf [0x55#8, 0x01#8, 0x02#8, 0x09#8, 0x09#8] none = 7 ∧
    expLenOf [0x55#8, 0x01#8, 0x02#8, 0x09#8, 0x09#8] (some 12) = 12 := by decide

/-- The answer 42 to `query` (V-DEC-03). -/
def answer42 : List Byte := [0x55#8, 0x01#8, 0x02#8, 0x01#8, 0x02#8, 0x2A#8, 0xE1#8, 0x19#8]

/-- V-PAR-01, V-PAR-02, V-PAR-07. -/
theorem test_validators :
    vSuccess Params.decided query answer42 8 = true ∧ vCrc answer42 8 = true ∧
    vBase Params.decided [0x55#8, 0x01#8, 0x02#8, 0x01#8, 0x02#8, 0x00#8, 0x00#8, 0x00#8] 5 8 = false := by decide +kernel

/-- V-DEC-03, V-DEC-05, V-DEC-07, V-DEC-41. -/
theorem test_decPos :
    decPos Params.decided query answer42 8 = .ok (.value (.position 0x2A#8)) ∧
    decPos Params.decided query [0x55#8, 0x01#8, 0x02#8, 0x01#8, 0x02#8, 0x65#8, 0xA0#8, 0xED#8] 8 =
      .ok (.discard .posOutOfRange) ∧
    decPos Params.decided query [0x55#8, 0x01#8, 0x02#8, 0x01#8, 0x02#8, 0xFF#8, 0x20#8, 0x86#8] 8 =
      .ok (.discard .posUnset) ∧
    decPos Params.decided query [0x55#8, 0x01#8, 0x03#8, 0x01#8, 0x02#8, 0x2A#8, 0xE0#8, 0xE5#8] 8 =
      .ok (.discard .addrMismatch) := by decide

/-- V-ORD-01 to V-ORD-03. -/
theorem test_check_order :
    addressedReason Params.decided query [0x56#8, 0x01#8, 0x03#8, 0x01#8, 0x02#8, 0xFF#8, 0x00#8, 0x00#8] 5 =
      some .short ∧
    addressedReason Params.decided query [0x56#8, 0x01#8, 0x03#8, 0x01#8, 0x02#8, 0xFF#8, 0x00#8, 0x00#8] 8 =
      some .noSync ∧
    addressedReason Params.decided query [0x55#8, 0x01#8, 0x03#8, 0x01#8, 0x02#8, 0xFF#8, 0x00#8, 0x00#8] 8 =
      some .addrMismatch := by decide

/-- V-UF-02. -/
theorem test_uart : uartBits [0x37#8] = [false, true, true, true, false, true, true, false, false, true] := by decide

/-- V-TR-41 and V-TR-43: a short read is padded with zeros, and an excess is lost. -/
theorem test_drain :
    fitBuffer 8 [0x55#8, 0x01#8, 0x02#8] = [0x55#8, 0x01#8, 0x02#8, 0x00#8, 0x00#8, 0x00#8, 0x00#8, 0x00#8] ∧
    fitBuffer 8 (answer42 ++ [0xAA#8, 0xBB#8]) = answer42 := by decide

/-- V-QD-03: DISP_STATUS with a QPOS request in flight; V-TR-01, V-TR-08, V-TR-20: BUS_STATUS. -/
theorem test_status :
    ({ State.reset with dstate := .exch, cur := some query } : State).view 2 = 0x0006080A#32 ∧
    ({ State.reset with busState := .offline, offlineReason := .configEmptyPort } : State).view 0 = 0x00000103#32 ∧
    State.reset.connectBegun.view 0 = 0x00000009#32 ∧
    ({ State.reset with busState := .offline, offlineReason := .disconnected } : State).view 0 = 0x00000703#32 ∧
    State.reset.view 6 = 0xFFFF5506#32 := by decide

/-- The table row of D_SLEEP is the first instruction after reset (log 5). -/
theorem test_withFetchWord :
    step (State.reset.withFetchWord 8 0x29) =
      .next { State.reset with dstate := .sleep, agent := .dispatcher, result := .ok .unit } := by rfl

/-! ## States and operands that meet the statements' hypotheses -/

/-- Session 1 as the agent. -/
def producing (s : State) : State := { s with agent := .producer s1 }

/-- The dispatcher as the agent. -/
def dispatching (s : State) : State := { s with agent := .dispatcher }

/-- A CONNECT issued during an exchange waits until the drain and then returns ok(true) (R267, R351). -/
theorem test_connect_waits :
    let s : State :=
      { State.reset with
        busState := .online, portOpen := true, tlock := .heldExchange, xop := .exchange 8 true, lineIn := [.bytes []],
        inputs := [.invoke .host (.op [0x40#8]), .connectReturn] }
    ∃ t u, step s = .next t ∧ t.result = .underWay ∧ step t = .next u ∧ u.result = .notEnabled ∧
      ∃ v w, step u = .next v ∧ v.tlock = .free ∧ step v = .next w ∧ w.result = .ok (.bool true) :=
  ⟨_, _, rfl, rfl, rfl, rfl, _, _, rfl, rfl, rfl, rfl⟩

/-- A connected bus. -/
def online : State := { State.reset with busState := .online, portOpen := true }

/-- A queue of depth 1 that `query` fills. -/
def full : State :=
  { State.reset with queue := [query], enqSeq := 4, params := { Params.decided with queueDepth := some 1 } }

/-- `query` in flight, in a state of the dispatcher. -/
def flying (s : State) (d : DState) : State := dispatching { s with dstate := d, cur := some query }

/-- A QPOS request whose expected length is too short for byte 5 (R61, log 15). -/
def shortQuery : PendingRequest := { query with expLen := 3 }

/-- An answer to `shortQuery` that meets the base checks and the address filter. -/
def shortAnswer : List Byte := [0x55#8, 0x01#8, 0x02#8]

theorem test_room : Room State.reset := by
  intro n h
  cases h

theorem test_full : Full full := rfl

/-- The four clauses: ended, held by the host, not enabled for the dispatcher, a fault. -/
theorem test_meets_StepRunsInvokedOperation :
    (∃ u, exec .crcInit { State.reset with inputs := [], agent := .host } = .next u ∧ u.result ≠ .notEnabled) ∧
    (∃ u, exec (.disconnect false) { State.reset with tlock := .heldExchange, inputs := [], agent := .host } = .next u ∧
      u.result = .notEnabled) ∧
    (∃ u, exec .dWake { State.reset with inputs := [], agent := .dispatcher } = .next u ∧ u.result = .notEnabled) ∧
    exec (.decPos shortQuery shortAnswer 3) { State.reset with inputs := [], agent := .host } = .fault .bufferRange ∧
    State.reset.blocked [] .host = false ∧ decode (.op [0x01#8]) = .ok .crcInit ∧
    decode (.op [0x41#8, 0x00#8]) = .ok (.disconnect false) ∧ decode (.op [0x2A#8]) = .ok .dWake ∧
    decode (encode (.decPos shortQuery shortAnswer 3)) = .ok (.decPos shortQuery shortAnswer 3) ∧
    Instr.wellFormed .crcInit = true ∧ Instr.wellFormed (.disconnect false) = true ∧ Instr.wellFormed .dWake = true ∧
    Instr.wellFormed (.decPos shortQuery shortAnswer 3) = true ∧
    (∃ u, exec .connect { online with tlock := .heldExchange, inputs := [], agent := .host } = .next u ∧
      NoOpWaits .connect u) ∧ ¬ NoOpWaits .crcInit State.reset :=
  ⟨⟨_, rfl, by decide⟩, ⟨_, rfl, rfl⟩, ⟨_, rfl, rfl⟩, rfl, rfl, by decide, by decide, by decide, by decide, rfl, rfl, rfl,
    rfl, ⟨_, rfl, rfl, rfl, by decide⟩, fun h => absurd h.1 (by decide)⟩

/-- A producer that holds an operation, and the retry of one that is now enabled, and of one that is not. -/
theorem test_meets_HeldOperationsWaitAndRetry :
    State.blocked State.reset [⟨.producer s1, .op [0x03#8]⟩] (.producer s1) = true ∧
    State.blocked State.reset [] (.producer s1) = false ∧
    decode (.op ([0x20#8] ++ queryBytes)) = .ok (.enqueue query) ∧
    (∃ u, exec (.enqueue query) (producing State.reset) = .next u ∧ u.result ≠ .notEnabled) ∧
    (∃ u, exec (.enqueue query) (producing full) = .next u ∧ u.result = .notEnabled) :=
  ⟨rfl, rfl, by decide, ⟨_, rfl, by decide⟩, ⟨_, rfl, rfl⟩⟩

theorem test_meets_DecodeEncodeEveryInstr :
    Instr.wellFormed (.generic (List.replicate 253 0x55#8) 255 .other) = true ∧
    Instr.wellFormed (.enqueue { query with seq := some 4294967295 }) = true ∧
    Instr.wellFormed (.send s7 [] 1 none) = true ∧ kind (List.replicate 254 0x55#8) = .generic := by
  decide +kernel

/-- Every boundary of the unassigned op numbers, and two operations of another column. -/
theorem test_meets_UnassignedOrForbiddenOpRefused :
    (∀ op ∈ [0x00#8, 0x05#8, 0x0F#8, 0x1D#8, 0x1F#8, 0x23#8, 0x27#8, 0x2F#8, 0x36#8, 0x37#8, 0x3E#8, 0x3F#8, 0x45#8,
      0xFF#8], Unassigned op) ∧
    State.blocked State.reset [] .host = false ∧
    permitted .connect .dispatcher = false ∧ permitted (.enqueue query) .host = false ∧
    permitted (.disconnect true) .host = false := by
  refine ⟨?_, rfl, rfl, rfl, rfl⟩
  unfold Unassigned
  decide

theorem test_meets_AgentColumns : permitted .dFetch State.reset.agent = false := by decide

theorem test_meets_RefusalChangesOnlyTheRecord :
    (∃ t, exec (.readStatus 8) State.reset = .next t ∧ t.result = .refused .badArgument) ∧
    (∃ t, exec .connect { State.reset with disposed := true } = .next t ∧ t.result = .refused .disposed) ∧
    (∃ t, exec .dFetch State.reset = .next t ∧ t.result = .refused .badOpcode) ∧
    (∃ t, exec .dFetch (dispatching State.reset) = .next t ∧ t.result = .notEnabled) :=
  ⟨⟨_, rfl, rfl⟩, ⟨_, rfl, rfl⟩, ⟨_, rfl, rfl⟩, ⟨_, rfl, rfl⟩⟩

/-- The state after reset meets the invariants. -/
theorem test_reset_invariants : Invariants State.reset := by
  constructor <;> simp [State.reset, ParamsLegal, Params.decided, lockOf]

theorem test_reset_fifo : FifoInv State.reset := by
  constructor <;> simp [State.reset, enqSeqs, deqSeqs, deliverSeqs]

/-- A history with one request delivered, one in flight and one queued. -/
def threeRequests : State :=
  { State.reset with
    enqSeq := 3
    cur := some { query with seq := some 1 }
    dstate := .exch
    queue := [{ query with seq := some 2 }]
    hist := [.enq 0 s1 [] 1 .other, .deq (some 0), .enq 1 s1 [] 1 .other, .enq 2 s1 [] 1 .other,
      .deliver s1 (some 0) [0x00#8] 0 false, .deq (some 1)] }

theorem test_meets_StepKeepsInvariants :
    Invariants threeRequests ∧ FifoInv threeRequests ∧
    ∃ t, step { threeRequests with busState := .unconnected } = .next t := by
  refine ⟨?_, ?_, ⟨_, rfl⟩⟩
  · constructor <;>
      simp [threeRequests, State.reset, ParamsLegal, Params.decided, lockOf, RequestBounds, query]
  · constructor <;> rfl

theorem test_meets_StepKeepsFifoOrder :
    Invariants threeRequests ∧ FifoInv threeRequests ∧ ∃ t, step threeRequests = .next t :=
  ⟨test_meets_StepKeepsInvariants.1, test_meets_StepKeepsInvariants.2.1, ⟨_, rfl⟩⟩

theorem test_meets_DeliveriesFollowAcceptance : FifoInv threeRequests ∧ 0 < threeRequests.enqSeq ∧ 2 < threeRequests.enqSeq :=
  ⟨test_meets_StepKeepsInvariants.2.1, by decide, by decide⟩

/-- A disposed and stopped machine. -/
def halted : State := { State.reset with disposed := true, dstate := .stopped }

theorem test_meets_StepOnlyAppendsHistory :
    Invariants halted ∧ halted.disposed = true ∧ halted.dstate = .stopped ∧ ∃ t, step halted = .next t := by
  refine ⟨?_, rfl, rfl, ⟨_, rfl⟩⟩
  constructor <;> simp [halted, State.reset, ParamsLegal, Params.decided, lockOf]

/-- CONNECT's first step changes BUS_STATE. -/
theorem test_meets_BusChangesAreRecorded :
    Invariants { State.reset with inputs := [.invoke .host (.op [0x40#8])] } ∧
    ∃ t, step { State.reset with inputs := [.invoke .host (.op [0x40#8])] } = .next t ∧
      t.busState ≠ State.reset.busState := by
  refine ⟨?_, ⟨_, rfl, by decide⟩⟩
  constructor <;> simp [State.reset, ParamsLegal, Params.decided, lockOf]

theorem test_meets_ElementsHaveTheirWriters :
    (∃ t, exec .crcRead State.reset = .next t ∧ invokedBy .crcRead ≠ .producer) ∧
    ∃ t, exec .dAttempt (flying State.reset .exch) = .next t ∧ t.rxb ≠ (flying State.reset .exch).rxb :=
  ⟨⟨_, rfl, by decide⟩, ⟨_, rfl, by decide⟩⟩

theorem test_meets_CrcInitAndRead : State.reset.agent = .host ∧ (dispatching State.reset).agent ≠ .host := by decide

theorem test_meets_CrcByteFoldsOneByte : State.reset.agent = .host := rfl

theorem test_meets_ChecksumReturnsCrc16 :
    (List.replicate 255 0x00#8).length ≤ 255 ∧ 255 < (List.replicate 256 0x00#8).length := by decide +kernel

theorem test_meets_CrcResidueAndDifference :
    [0x01#8, 0x02#8].length = [0x03#8, 0x04#8].length ∧ (List.replicate 255 0x00#8).length ≤ 255 := by decide +kernel

theorem test_meets_IncrementalCrcIsChecksum : State.reset.agent = .host := rfl

theorem test_meets_BuildAppendsCrc :
    (List.replicate 253 0x00#8).length ≤ 253 ∧ 253 < (List.replicate 254 0x00#8).length := by decide +kernel

theorem test_meets_ExpectedLengthTable : kind query.payload ≠ .register ∧ kind query.payload ≠ .generic := by decide

theorem test_meets_CheckedConstructors :
    (producing State.reset).agent = .producer s1 ∧ (100#8).toNat ≤ 100 ∧ 100 < (101#8).toNat ∧ (1#8).toNat ≤ 1 ∧
    1 < (2#8).toNat := by decide

theorem test_meets_PlainConstructors : (producing State.reset).agent = .producer s1 := rfl

theorem test_meets_ConstructorsMakeTheirKind :
    (producing State.reset).agent = .producer s1 ∧
    ∃ t, exec (.mkMove s1 0x01#8 0x02#8 0x64#8) (producing State.reset) = .next t ∧
      t.result = .ok (.request (moveRequest s1 0x01#8 0x02#8 0x64#8)) := ⟨rfl, ⟨_, rfl, rfl⟩⟩

/-- V-FB-11, V-FB-13 to V-FB-15, and the accepted bounds. -/
theorem test_meets_GenericConstructor :
    253 < (List.replicate 254 0x00#8).length ∧ (List.replicate 253 0x00#8).length ≤ 253 ∧
    (kind query.payload ≠ .generic ∧ 10 ≠ expLenOf query.payload none) ∧
    (query.payload.length ≤ 253 ∧ 8 = expLenOf query.payload none) ∧
    kind [0x55#8, 0x01#8, 0x02#8, 0x09#8, 0x09#8] = .generic := by decide +kernel

/-- Disposed, full and with room; the bounds of MOVE's and SETDIR's argument; a GENERIC payload. -/
theorem test_meets_WireCommandsEnqueue :
    (producing State.reset).agent = .producer s1 ∧ (producing State.reset).disposed = false ∧
    Room (producing State.reset) ∧ Full (producing full) ∧ (producing full).disposed = false ∧
    (producing halted).disposed = true ∧ (100#8).toNat ≤ 100 ∧ 100 < (101#8).toNat ∧ (1#8).toNat ≤ 1 ∧
    1 < (2#8).toNat ∧ kind [0x55#8, 0x01#8, 0x02#8, 0x09#8, 0x09#8] = .generic ∧ kind [] = .generic :=
  ⟨rfl, rfl, test_room, rfl, rfl, rfl, by decide, by decide, by decide, by decide, by decide, by decide⟩

/-- Lengths at their bounds, and beyond each (V-QD-15, V-QD-16, V-QD-18). -/
theorem test_meets_EnqueueAppendsNumberedRequest :
    LengthsOk (request s1 (List.replicate 253 0x00#8) 255 .other) ∧ LengthsOk (request s1 [] 1 .other) ∧
    ¬ LengthsOk (request s1 (List.replicate 254 0x00#8) 8 .other) ∧ ¬ LengthsOk (request s1 [] 0 .other) ∧
    ¬ LengthsOk (request s1 [] 256 .other) ∧ Room (producing State.reset) ∧ Full (producing full) ∧
    (producing full).disposed = false ∧ (producing halted).disposed = true := by
  refine ⟨?_, ?_, ?_, ?_, ?_, test_room, rfl, rfl, rfl⟩ <;> unfold LengthsOk <;> decide +kernel

theorem test_meets_FullQueueHoldsTheProducer :
    decode (.op ([0x20#8] ++ queryBytes)) = .ok (.enqueue query) ∧ LengthsOk query ∧ full.disposed = false ∧
    full.blocked full.held (.producer s1) = false ∧ Full full ∧
    State.reset.blocked ([⟨.producer s1, .op ([0x20#8] ++ queryBytes)⟩].take 0) (.producer s1) = false ∧
    Room State.reset ∧ State.reset.params.queueDepth = none :=
  ⟨by decide, by simp [LengthsOk, query], rfl, rfl, rfl, rfl, test_room, rfl⟩

theorem test_meets_SendQueuesItsRequest :
    LengthsOk (request s1 query.payload 8 .position) ∧ (kind query.payload ≠ .generic → 8 = expLenOf query.payload none) ∧
    ¬ LengthsOk (request s1 [] 256 .other) ∧ (kind query.payload ≠ .generic ∧ 10 ≠ expLenOf query.payload none) ∧
    Room (producing State.reset) ∧ Full (producing full) ∧ (producing halted).disposed = true :=
  ⟨by simp [LengthsOk, request, query], by decide, by simp [LengthsOk, request], by decide, test_room, rfl, rfl⟩

/-- A SEND that waits for request 3, before and after its delivery. -/
def awaiting (h : List Event) : State :=
  { State.reset with sends := [⟨.producer s1, s1, 3⟩], hist := h, inputs := [.reply 0] }

theorem test_meets_SendReturnsItsDelivery :
    (awaiting []).inputs = [.reply 0] ∧ (awaiting []).sends[0]? = some ⟨.producer s1, s1, 3⟩ ∧
    (awaiting [.deq (some 3), .deliver s1 (some 3) answer42 8 true]).hist =
      [.deq (some 3)] ++ .deliver s1 (some 3) answer42 8 true :: [] ∧
    (∀ b c x, Event.deliver s1 (some 3) b c x ∉ [Event.deq (some 3)]) ∧
    (∀ b c x, Event.deliver s1 (some 3) b c x ∉ (awaiting []).hist) :=
  ⟨rfl, rfl, rfl, by simp, by simp [awaiting]⟩

theorem test_meets_DisposeSetsDisposed :
    State.reset.agent = .host ∧ State.reset.disposed = false ∧ halted.agent = .host ∧ halted.disposed = true := by decide

theorem test_meets_DisposedIsForever :
    (∃ t, step halted = .next t) ∧
    (∃ t, exec .dispose State.reset = .next t ∧ t.disposed = true) ∧
    permitted .connect halted.agent = true ∧ permitted (.enqueue query) (producing halted).agent = true ∧
    permitted (.send s1 [] 1 none) (producing halted).agent = true := ⟨⟨_, rfl⟩, ⟨_, rfl, rfl⟩, rfl, rfl, rfl⟩

theorem test_meets_FetchPopsTheOldest :
    let s := dispatching full
    (s.agent = .dispatcher ∧ s.dstate = .idle ∧ s.disposed = false ∧ s.queue = query :: []) ∧
    (dispatching State.reset).queue = [] := by decide

theorem test_meets_SleepAndWake :
    let s := dispatching State.reset
    (s.agent = .dispatcher ∧ s.dstate = .idle ∧ s.disposed = false ∧ s.queue = []) ∧
    (dispatching full).queue ≠ [] ∧ (dispatching halted).disposed = true ∧
    (dispatching { State.reset with dstate := .sleep }).dstate = .sleep := by decide

/-- On a connected bus; with the lock held; offline with an attempt left, and with none. -/
theorem test_meets_AttemptSendsTheFrame :
    let s := flying online .exch
    let t := flying State.reset .exch
    s.agent = .dispatcher ∧ s.dstate = .exch ∧ s.cur = some query ∧ query.payload.length ≤ 253 ∧ s.tlock = .free ∧
    Online s ∧ { s with tlock := .heldConnect }.tlock ≠ .free ∧ ¬ Online t ∧
    t.attempt + 1 < t.params.maxAttempts ∧ t.disposed = false ∧
    { t with attempt := 5 }.params.maxAttempts ≤ { t with attempt := 5 }.attempt + 1 := by
  refine ⟨rfl, rfl, rfl, by decide, rfl, ⟨rfl, rfl⟩, by decide, ?_, by decide, rfl, by decide⟩
  intro h
  exact absurd h.1 (by decide)

/-- The four outcomes of an attempt: a fault, success, the last failure, a failure with an attempt left. -/
theorem test_meets_AttemptDecidesRetry :
    let s : State := { flying online .exch with
      tlock := .heldExchange, xop := .exchange 8 true, inputs := [.finish], lineIn := [.bytes answer42] }
    s.inputs = .finish :: [] ∧ s.xop = .exchange 8 true ∧ s.cur = some query ∧
    DrawsLine { s with inputs := [], agent := .dispatcher } (.bytes answer42)
      { s with inputs := [], agent := .dispatcher, lineIn := [] } ∧
    Success s.params query answer42 8 ∧ ¬ Success s.params query (blank 8) 0 ∧
    s.attempt + 1 < s.params.maxAttempts ∧ s.disposed = false ∧
    { s with attempt := 5 }.params.maxAttempts ≤ { s with attempt := 5 }.attempt + 1 := by
  refine ⟨rfl, rfl, rfl, .inl ⟨[], rfl, rfl⟩, ?_, ?_, by decide, rfl, by decide⟩
  · simp [Success, BaseValid, Whole, AddressOk, EchoOk, RegisterOk, EchoKind, query, answer42, kind, flying, dispatching,
      online, State.reset, Params.decided]
  · simp [Success, BaseValid, Whole, query]

theorem test_meets_RetryUnlessDisposed :
    let s := flying State.reset .backoff
    s.agent = .dispatcher ∧ s.dstate = .backoff ∧ s.disposed = false ∧ s.cur = some query ∧
    (flying halted .backoff).disposed = true ∧ (flying State.reset .exch).dstate ≠ .backoff := by decide

/-- A delivery with a valid answer, and one whose value byte lies outside the buffer. -/
theorem test_meets_DeliverRoutesBack :
    let s := { flying State.reset .deliver with rxb := answer42, rxCount := 8 }
    s.agent = .dispatcher ∧ s.dstate = .deliver ∧ s.cur = some query ∧
    ¬ ReadsOutside s.params query s.rxb s.rxCount ∧ ReadsOutside s.params shortQuery shortAnswer 3 := by
  refine ⟨rfl, rfl, rfl, ?_, ?_⟩
  · rintro ⟨-, -, -, h⟩
    exact absurd h (by decide)
  · simp [ReadsOutside, QueryKind, BaseValid, Whole, AddressOk, shortQuery, shortAnswer, query, kind, flying, dispatching,
      State.reset, Params.decided]

/-- Every condition of D_STOP met, and each of them not; and STOPPED. -/
theorem test_meets_StopDeliversTheQueue :
    let s := dispatching { full with disposed := true }
    s.agent = .dispatcher ∧ MayStop s ∧ ¬ MayStop (dispatching full) ∧ ¬ MayStop { s with dstate := .exch } ∧
    ¬ MayStop { s with tlock := .heldConnect } ∧ (dispatching halted).dstate = .stopped := by
  unfold MayStop
  decide

/-- A transition enabled, none enabled because TLOCK is held, and none in STOPPED. -/
theorem test_meets_DispatcherHasOneTransition :
    (dispatching State.reset).agent = .dispatcher ∧ Invariants (dispatching State.reset) ∧
    (dispatching State.reset).dstate ≠ .stopped ∧ (dispatching State.reset).tlock = .free ∧
    ({ State.reset with inputs := [.dispatch] } : State).inputs = .dispatch :: [] ∧
    wasEnabled (exec .dSleep (dispatching State.reset)) = true ∧
    (∀ i ∈ transitions, wasEnabled (exec i { flying State.reset .exch with tlock := .heldConnect }) = false) ∧
    (∀ i ∈ transitions, wasEnabled (exec i (dispatching halted)) = false) ∧ halted.dstate = .stopped := by
  refine ⟨rfl, ?_, by decide, rfl, rfl, rfl, by decide, by decide, rfl⟩
  constructor <;> simp [dispatching, State.reset, ParamsLegal, Params.decided, lockOf]

theorem test_meets_TrailerCheckComparesLastBytes : 1 ≤ [0xAA#8].length := by decide

/-- A request of each class of kinds. -/
theorem test_meets_SuccessByClass :
    EchoKind (kind (moveRequest s1 0x01#8 0x02#8 0x37#8).payload) ∧ QueryKind (kind query.payload) ∧
    kind (registerRequest s1 0x01#8 0x02#8).payload = .register ∧
    kind [0x55#8, 0x01#8, 0x02#8, 0x09#8, 0x09#8] = .generic ∧
    vEcho (moveRequest s1 0x01#8 0x02#8 0x37#8) (frameOf (moveRequest s1 0x01#8 0x02#8 0x37#8).payload) = true := by
  refine ⟨.inl ?_, .inl ?_, ?_, ?_, ?_⟩ <;> decide +kernel

/-- For each decoder a request of its kind, one of another, and one whose value byte lies outside the buffer. -/
theorem test_meets_QueryDecodersAnswer :
    kind query.payload = .qpos ∧ kind (qstateRequest s1 0x01#8 0x02#8).payload = .qstate ∧
    kind (qdirRequest s1 0x01#8 0x02#8).payload = .qdir ∧ kind (handshakeRequest s1 0x01#8 0x02#8).payload = .handshake ∧
    kind (openRequest s1 0x01#8 0x02#8).payload = .openCmd ∧
    (∀ r ∈ [shortQuery, { qstateRequest s1 0x01#8 0x02#8 with expLen := 3 },
      { qdirRequest s1 0x01#8 0x02#8 with expLen := 3 }, { handshakeRequest s1 0x01#8 0x02#8 with expLen := 3 }],
      ReadsOutside State.reset.params r shortAnswer 3) ∧
    (∀ r ∈ [query, qstateRequest s1 0x01#8 0x02#8, qdirRequest s1 0x01#8 0x02#8, handshakeRequest s1 0x01#8 0x02#8],
      ¬ ReadsOutside State.reset.params r answer42 8) := by
  refine ⟨rfl, rfl, rfl, rfl, rfl, ?_, ?_⟩
  · simp [ReadsOutside, QueryKind, BaseValid, Whole, AddressOk, shortQuery, shortAnswer, query, qstateRequest, qdirRequest,
      handshakeRequest, requestOf, payloadOf, Config.sync, kind, State.reset, Params.decided]
  · intro r _ h
    exact absurd h.2.2.2 (by decide)

theorem test_meets_RegistrationDecoder :
    kind (registerRequest s1 0x01#8 0x02#8).payload = .register ∧ kind query.payload ≠ .register := by decide

/-- At route-back with a valid answer and with one whose value byte lies outside the buffer, and not at route-back. -/
theorem test_meets_DecodeRecordsItsEvent :
    (routingBack State.reset query answer42 8).agent = .dispatcher ∧
    AtRouteBack (routingBack State.reset query answer42 8) query answer42 8 ∧
    ¬ ReadsOutside State.reset.params query answer42 8 ∧
    AtRouteBack (routingBack State.reset shortQuery shortAnswer 3) shortQuery shortAnswer 3 ∧
    ReadsOutside State.reset.params shortQuery shortAnswer 3 ∧
    ¬ AtRouteBack (dispatching halted) query answer42 8 := by
  refine ⟨rfl, ⟨rfl, rfl, rfl, rfl⟩, test_meets_DeliverRoutesBack.2.2.2.1, ⟨rfl, rfl, rfl, rfl⟩,
    test_meets_DeliverRoutesBack.2.2.2.2, ?_⟩
  intro h
  exact absurd h.1 (by decide)

/-- The registration acknowledgement of V-PAR-30. -/
def acknowledgement : List Byte :=
  [0x55#8, 0x00#8, 0x00#8, 0x00#8, 0x00#8, 0x00#8, 0x00#8, 0x00#8, 0x01#8, 0x02#8, 0x00#8, 0x00#8, 0x00#8, 0x00#8, 0x00#8]

/-- A MOVE request and its echo (V-PAR-10). -/
def move55 : PendingRequest := moveRequest s1 0x01#8 0x02#8 0x37#8

def echo55 : List Byte := [0x55#8, 0x01#8, 0x02#8, 0x03#8, 0x04#8, 0x37#8, 0x83#8, 0x70#8]

theorem test_meets_DecodeIgnoresUnreadBytes :
    State.reset.params.checkRxCrc = false ∧
    (QueryKind (kind query.payload) ∧ answer42.length = (answer42.set 7 0x00#8).length ∧
      ∀ k ∈ [0, 1, 2, 5], answer42[k]? = (answer42.set 7 0x00#8)[k]?) ∧
    (kind (registerRequest s1 0x01#8 0x02#8).payload = .register ∧
      ∀ k ∈ [0, 8, 9], acknowledgement[k]? = (acknowledgement.set 1 0x77#8)[k]?) ∧
    (EchoKind (kind move55.payload) ∧ echo55.take 6 = (echo55.set 6 0x00#8).take 6 ∧ move55.payload.length = 6) ∧
    (kind [] = .generic ∧ answer42[0]? = echo55[0]?) ∧
    (∃ t, exec (.decode query answer42 8) (routingBack State.reset query answer42 8) = .next t) ∧
    ∃ t, exec (.decode move55 echo55 8) (routingBack State.reset move55 echo55 8) = .next t :=
  ⟨rfl, ⟨.inl rfl, rfl, by decide⟩, ⟨rfl, by decide⟩, ⟨.inl rfl, rfl, rfl⟩, ⟨rfl, rfl⟩, ⟨_, rfl⟩, ⟨_, rfl⟩⟩

/-- Both parts with an Emit. -/
theorem test_meets_EmitOnlyToTheOwner :
    (∃ t, exec (.decode query answer42 8) (routingBack State.reset query answer42 8) = .next t ∧
      Event.emitted s1 .position (.position 0x2A#8) ∈ t.hist) ∧
    ∃ t, exec .dDeliver { flying State.reset .deliver with rxb := answer42, rxCount := 8 } = .next t ∧
      Event.emitted s1 .position (.position 0x2A#8) ∈ t.hist := by
  refine ⟨⟨_, rfl, ?_⟩, ⟨_, rfl, ?_⟩⟩ <;> decide +kernel

theorem test_meets_UartCharacters : [0x37#8][0]? = some 0x37#8 := rfl

theorem test_meets_ConnectBegins :
    State.reset.agent = .host ∧ halted.disposed = true ∧ Online online ∧ online.disposed = false ∧
    online.tlock = .free ∧ Online { online with tlock := .heldExchange } ∧ ¬ Online State.reset ∧
    State.reset.tlock = .free ∧ ({ State.reset with tlock := .heldExchange } : State).tlock ≠ .free ∧
    decode (.op [0x40#8]) = .ok .connect ∧ { State.reset with connectReturns := 1 }.connectReturns = 0 + 1 ∧
    State.reset.connectReturns = 0 := by
  refine ⟨rfl, rfl, ⟨rfl, rfl⟩, rfl, rfl, ⟨rfl, rfl⟩, ?_, rfl, by decide, by decide, rfl, rfl⟩
  intro h
  exact absurd h.1 (by decide)

/-- A name given; an empty name, and each drawn outcome. -/
theorem test_meets_ConnectEnds :
    let s : State := { State.reset.connectBegun with inputs := [.finish] }
    ({ State.reset with inputs := [.configure ['p']] } : State).inputs = .configure ['p'] :: [] ∧
    s.inputs = .finish :: [] ∧ s.xop = .connect ∧ s.portName = [] ∧ { s with portName := ['p'] }.portName ≠ [] ∧
    ∀ a, DrawsPort { s with portName := ['p'], inputs := [], agent := .host, portIn := [a] } a
      { s with portName := ['p'], inputs := [], agent := .host } :=
  ⟨rfl, rfl, rfl, rfl, by decide, fun _ => .inl ⟨[], rfl, rfl⟩⟩

theorem test_meets_DisconnectClosesThePort :
    State.reset.agent = .host ∧ State.reset.tlock = .free ∧
    ({ State.reset with tlock := .heldExchange } : State).tlock ≠ .free ∧
    ({ State.reset.disconnectBegun with inputs := [.finish] } : State).xop = .disconnect ∧
    MayStop (dispatching { full with disposed := true }) ∧ ¬ MayStop (dispatching halted) := by
  unfold MayStop
  decide

/-- At CUR's exchange with TLOCK free and held, connected and not, and the outcomes of its final step; not at it; operands out of
range. -/
theorem test_meets_ExchangeWritesThenDrains :
    let s := flying online .exch
    let t : State := { s with tlock := .heldExchange, xop := .exchange 8 false, inputs := [.finish] }
    s.agent = .dispatcher ∧ AtExchange s (frameOf query.payload) 8 query ∧ (frameOf query.payload).length ≤ 255 ∧
    s.tlock = .free ∧ Online s ∧ AtExchange (flying State.reset .exch) (frameOf query.payload) 8 query ∧
    ¬ Online (flying State.reset .exch) ∧ AtExchange { s with tlock := .heldConnect } (frameOf query.payload) 8 query ∧
    (∀ r, ¬ AtExchange (dispatching halted) [] 1 r) ∧ 255 < (List.replicate 256 0x00#8).length ∧
    t.xop = .exchange 8 false ∧ t.cur = some query ∧
    DrawsLine { t with inputs := [], agent := .dispatcher } (Config.freeLine 0)
      { t with inputs := [], agent := .dispatcher, draws := 1 } ∧
    Success s.params query answer42 8 ∧ ¬ Success s.params query (blank 8) 0 ∧ s.attempt + 1 < s.params.maxAttempts ∧
    s.disposed = false ∧ { s with attempt := 5 }.params.maxAttempts ≤ { s with attempt := 5 }.attempt + 1 := by
  refine ⟨rfl, ⟨rfl, rfl, rfl, rfl⟩, by decide +kernel, rfl, ⟨rfl, rfl⟩, ⟨rfl, rfl, rfl, rfl⟩, ?_, ⟨rfl, rfl, rfl, rfl⟩, ?_,
    by decide +kernel, rfl, rfl, .inr ⟨rfl, rfl, rfl⟩, test_meets_AttemptDecidesRetry.2.2.2.2.1,
    test_meets_AttemptDecidesRetry.2.2.2.2.2.1, by decide, rfl, by decide⟩
  · intro h
    exact absurd h.1 (by decide)
  · intro r h
    exact absurd h.1 (by decide)

/-- A step while the lock is held, one that takes it, and one that frees it. -/
theorem test_meets_TransportLockDiscipline :
    (∃ t, exec .crcInit { State.reset with tlock := .heldExchange } = .next t) ∧
    (∃ t, exec .connect State.reset = .next t ∧ t.tlock ≠ State.reset.tlock) ∧
    ({ State.reset.connectBegun with inputs := [.finish] } : State).xop ≠ .idle :=
  ⟨⟨_, rfl⟩, ⟨_, rfl, by decide⟩, by decide⟩

theorem test_meets_ReadStatusReturnsView : 7 ≤ 7 ∧ 7 < 8 := by decide

theorem test_meets_StatusFields : Invariants threeRequests := test_meets_StepKeepsInvariants.1

end Sys2Proof.Tests
end

-- How an instruction ends (O7) and how an invocation becomes a step (O1).
section
/-! ## How an instruction ends

The results of 00_scope.md R13, said once for every instruction: `Ends` names the ways a step of `exec` can end, each shared
operation has a lemma that its end is one of them, and `exec_ends` collects them. -/

namespace Sys2Proof.Machine

open Sys2Proof.Claim

/-- The causes an operation can be refused with, each with its code (R300, R301). -/
def refusalCodes : List (Cause × Byte) := [(.badArgument, 11#8), (.disposed, 12#8), (.badOpcode, 13#8)]

/-- The ends of a step from `s` (R13; `underWay` of R70, `fault` of R61). Only a refusal and "not enabled" fix the next
state. -/
inductive Ends (s : State) : Step → Prop
  | ok (v : Reply) (u : State) : Ends s (.next (u.withResult (.ok v)))
  | underWay (u : State) : Ends s (.next (u.withResult .underWay))
  | refused {c : Cause} {code : Byte} (info : List Byte) (hc : (c, code) ∈ refusalCodes) :
      Ends s (.next (refusedWith s c code info))
  | notEnabled : Ends s (.next (waiting s))
  | fault (f : Fault) : Ends s (.fault f)

theorem Ends.refusedWith_of_result {s t : State} {c : Cause} (h : Ends s (.next t)) (hr : t.result = .refused c) :
    ∃ code info, (c, code) ∈ refusalCodes ∧ t = refusedWith s c code info := by
  cases h with
  | ok v u => cases hr
  | underWay u => cases hr
  | refused info hc =>
    cases hr
    exact ⟨_, info, hc, rfl⟩
  | notEnabled => cases hr

theorem Ends.waiting_of_result {s t : State} (h : Ends s (.next t)) (hr : t.result = .notEnabled) : t = waiting s := by
  cases h with
  | ok v u => cases hr
  | underWay u => cases hr
  | refused info hc => cases hr
  | notEnabled => rfl

/-! ### The shared operations -/

theorem reply_ends {s : State} (v : Reply) (u : State) : Ends s (reply v u) := .ok v u

theorem underWay_ends {s : State} (u : State) : Ends s (underWay u) := .underWay u

theorem notEnabled_ends (s : State) : Ends s (notEnabled s) := .notEnabled

theorem badArgument_ends (info : List Byte) (s : State) : Ends s (refuse .badArgument info s) :=
  .refused (code := 11#8) info (by decide)

theorem disposed_ends (info : List Byte) (s : State) : Ends s (refuse .disposed info s) :=
  .refused (code := 12#8) info (by decide)

theorem badOpcode_ends (info : List Byte) (s : State) : Ends s (refuse .badOpcode info s) :=
  .refused (code := 13#8) info (by decide)

theorem ite_ends {p : Prop} [Decidable p] {s : State} {a b : Step} (ha : Ends s a) (hb : Ends s b) :
    Ends s (if p then a else b) := by
  split
  · exact ha
  · exact hb

theorem guarded_ends {i : Instr} {s : State} {k : Step} (h : Ends s k) : Ends s (guarded i s k) :=
  ite_ends h (badOpcode_ends _ s)

theorem replyDecoded_ends (d : Except Fault Decoded) (s : State) : Ends s (replyDecoded d s) := by
  cases d with
  | ok d => exact reply_ends _ s
  | error f => exact .fault f

theorem decoderFor_ends (k : Kind) (r : PendingRequest) (d : Except Fault Decoded) (s : State) :
    Ends s (decoderFor k r d s) :=
  ite_ends (replyDecoded_ends d s) (badArgument_ends _ s)

theorem enqueueRequest_ends (r : PendingRequest) (s : State) : Ends s (enqueueRequest r s) :=
  ite_ends (disposed_ends _ s) (ite_ends (badArgument_ends _ s) (ite_ends (notEnabled_ends s) (reply_ends _ _)))

theorem routeBack_ends (r : PendingRequest) (v : Decoded → Reply) (s : State) : Ends s (routeBack r v s) := by
  unfold routeBack
  split
  · exact reply_ends _ _
  · exact .fault _

theorem beginExchange_ends (r : PendingRequest) (b : Bool) (s : State) : Ends s (beginExchange r b s) :=
  ite_ends (notEnabled_ends s) (ite_ends (underWay_ends _) (reply_ends _ _))

theorem stopDispatcher_ends (s : State) : Ends s (stopDispatcher s) := by
  refine ite_ends ?_ (notEnabled_ends s)
  split
  · exact reply_ends _ _
  · exact .fault _

/-! ### The meanings that look at the queue, at CUR or at TLOCK -/

theorem execSend_ends (o : SessionId) (p : List Byte) (n : Nat) (t : Option ChannelTag) (s : State) :
    Ends s (execSend o p n t s) :=
  guarded_ends
    (ite_ends (disposed_ends _ s) (ite_ends (badArgument_ends _ s) (ite_ends (notEnabled_ends s) (underWay_ends _))))

theorem execDfetch_ends (s : State) : Ends s (execDfetch s) := by
  refine guarded_ends (ite_ends ?_ (notEnabled_ends s))
  split
  · exact reply_ends _ _
  · exact notEnabled_ends s

theorem execDattempt_ends (s : State) : Ends s (execDattempt s) := by
  refine guarded_ends ?_
  split
  · exact ite_ends (badArgument_ends _ s) (beginExchange_ends _ true s)
  · exact notEnabled_ends s

theorem execDdeliver_ends (s : State) : Ends s (execDdeliver s) := by
  refine guarded_ends ?_
  split
  · exact routeBack_ends _ _ s
  · exact notEnabled_ends s

theorem execExchange_ends (f : List Byte) (n : Nat) (s : State) : Ends s (execExchange f n s) := by
  refine guarded_ends (ite_ends (badArgument_ends _ s) ?_)
  split
  · exact ite_ends (beginExchange_ends _ false s) (notEnabled_ends s)
  · exact notEnabled_ends s

theorem execConnect_ends (s : State) : Ends s (execConnect s) :=
  guarded_ends
    (ite_ends (disposed_ends _ s) (ite_ends (reply_ends _ s) (ite_ends (underWay_ends _) (notEnabled_ends s))))

theorem execDisconnect_ends (permanent : Bool) (s : State) : Ends s (execDisconnect permanent s) :=
  guarded_ends (ite_ends (stopDispatcher_ends s) (ite_ends (underWay_ends _) (notEnabled_ends s)))

/-! ### Every instruction -/

theorem exec_ends (i : Instr) (s : State) : Ends s (exec i s) := by
  unfold exec
  cases i with
  | openCmd a0 a1 | closeCmd a0 a1 | stopCmd a0 a1 | qpos a0 a1 | qstate a0 a1 | qdir a0 a1 | handshake a0 a1
  | register n0 n1 | enqueue r => exact guarded_ends (enqueueRequest_ends _ s)
  | move a0 a1 p | setdir a0 a1 d | generic p n t =>
    exact guarded_ends (ite_ends (badArgument_ends _ s) (enqueueRequest_ends _ s))
  | crcInit | crcByte b | crcRead | expLen p hint | mkOpen o a0 a1 | mkClose o a0 a1 | mkStop o a0 a1 | mkQpos o a0 a1
  | mkQstate o a0 a1 | mkQdir o a0 a1 | mkHandshake o a0 a1 | mkRegister o n0 n1 | vBase buf count n | vCrc buf count
  | vAddr r buf | vEcho r buf | vRegack r buf | vSuccess r buf count | uartEncode bs =>
    exact guarded_ends (reply_ends _ _)
  | checksum bs | build p | mkMove o a0 a1 p | mkSetdir o a0 a1 d | mkGeneric o p n t | readStatus k =>
    exact guarded_ends (ite_ends (badArgument_ends _ s) (reply_ends _ s))
  | decPos r buf count | decState r buf count | decDir r buf count | decVersion r buf count | decRegack r buf count =>
    exact guarded_ends (decoderFor_ends _ r _ s)
  | dSleep | dWake => exact guarded_ends (ite_ends (reply_ends _ _) (notEnabled_ends s))
  | dRetry => exact guarded_ends (ite_ends (ite_ends (reply_ends _ _) (reply_ends _ _)) (notEnabled_ends s))
  | dStop => exact guarded_ends (stopDispatcher_ends s)
  | dispose => exact guarded_ends (ite_ends (reply_ends _ s) (reply_ends _ _))
  | decode r buf count => exact guarded_ends (ite_ends (routeBack_ends r _ s) (notEnabled_ends s))
  | send o p n t => exact execSend_ends o p n t s
  | dFetch => exact execDfetch_ends s
  | dAttempt => exact execDattempt_ends s
  | dDeliver => exact execDdeliver_ends s
  | exchange f n => exact execExchange_ends f n s
  | connect => exact execConnect_ends s
  | disconnect permanent => exact execDisconnect_ends permanent s

/-- Settles O7: of the ends every instruction has (`exec_ends`), only a refusal and "not enabled" carry those results. -/
theorem refusalChangesOnlyTheRecord : Obligations.RefusalChangesOnlyTheRecord := by
  intro i s t h
  have hEnds : Ends s (.next t) := h ▸ exec_ends i s
  exact ⟨fun c hr => hEnds.refusedWith_of_result hr, fun hr => hEnds.waiting_of_result hr⟩

end Sys2Proof.Machine
end

section
/-! ## How an invocation becomes a step

The schedule's wrappers around `exec` (log 5, 7, 22), an equation per case: `returnAfter` delays the ok(true) of a CONNECT,
`heldAfter` holds an operation that was not enabled, and `step_invoke` puts them around the invoked instruction. -/

namespace Sys2Proof.Machine

open Sys2Proof.Claim

theorem noOpWaits_iff (i : Instr) (u : State) : noOpWaits i u = true ↔ NoOpWaits i u := decide_eq_true_iff

theorem result_ne_notEnabled_of_noOpWaits {i : Instr} {u : State} (h : NoOpWaits i u) : u.result ≠ .notEnabled := by
  obtain ⟨-, hok, -⟩ := h
  simp [hok]

theorem returnAfter_next_of_waits {i : Instr} {u : State} (h : NoOpWaits i u) :
    returnAfter i (.next u) = .next (returnsLater u) :=
  returnAfter_of_waits ((noOpWaits_iff i u).2 h)

theorem returnAfter_next_of_not_waits {i : Instr} {u : State} (h : ¬ NoOpWaits i u) :
    returnAfter i (.next u) = .next u :=
  returnAfter_of_not_waits (Bool.eq_false_iff.2 (mt (noOpWaits_iff i u).1 h))

theorem returnAfter_next_of_notEnabled {i : Instr} {u : State} (h : u.result = .notEnabled) :
    returnAfter i (.next u) = .next u :=
  returnAfter_next_of_not_waits fun hw => result_ne_notEnabled_of_noOpWaits hw h

theorem holds_eq_true_iff (a : Agent) : holds a = true ↔ a ≠ .dispatcher := by
  cases a <;> simp [holds]

theorem heldAfter_of_enabled (a : Agent) (t : Transaction) {u : State} (h : u.result ≠ .notEnabled) :
    heldAfter a t (.next u) = .next u := by
  simp [heldAfter, h]

theorem heldAfter_of_notEnabled {a : Agent} (t : Transaction) {u : State} (h : u.result = .notEnabled)
    (ha : a ≠ .dispatcher) : heldAfter a t (.next u) = .next { u with held := u.held ++ [⟨a, t⟩] } := by
  simp [heldAfter, h, (holds_eq_true_iff a).2 ha]

/-- The dispatcher holds no operation: its state selects its next transition anew (R240). -/
theorem heldAfter_dispatcher (t : Transaction) (o : Step) : heldAfter .dispatcher t o = o := by
  cases o <;> simp [heldAfter, holds]

theorem runTransaction_of_decode {t : Transaction} {i : Instr} (h : decode t = .ok i) (a : Agent) (s : State) :
    runTransaction a t s = returnAfter i (exec i { s with agent := a }) := by
  simp only [runTransaction, h]

theorem invokeStep_of_not_blocked {a : Agent} {s : State} (h : s.blocked s.held a = false) (t : Transaction) :
    invokeStep a t s = heldAfter a t (runTransaction a t s) := by
  simp [invokeStep, h]

theorem step_of_inputs {s : State} {x : Input} {rest : List Input} (h : s.inputs = x :: rest) :
    step s = takeInput x { s with inputs := rest } := by
  simp only [step, h]

/-- The step that takes the invocation of an instruction by an agent that is not blocked (R72, R221). -/
theorem step_invoke {s : State} {a : Agent} {t : Transaction} {i : Instr} {rest : List Input}
    (hin : s.inputs = .invoke a t :: rest) (hb : s.blocked s.held a = false) (hd : decode t = .ok i) :
    step s = heldAfter a t (returnAfter i (exec i { s with inputs := rest, agent := a })) := by
  calc step s = invokeStep a t { s with inputs := rest } := step_of_inputs hin
    _ = heldAfter a t (runTransaction a t { s with inputs := rest }) :=
        invokeStep_of_not_blocked (s := { s with inputs := rest }) hb t
    _ = heldAfter a t (returnAfter i (exec i { s with inputs := rest, agent := a })) := by
        rw [runTransaction_of_decode hd]

/-- Settles O1: `step_invoke`, then the case of each wrapper for what `exec` answers. -/
theorem stepRunsInvokedOperation : Obligations.StepRunsInvokedOperation := by
  intro s a t i rest hin hb hd _
  rw [step_invoke hin hb hd]
  refine ⟨fun u hu hen hw => ?done, fun u hu hw => ?waits, fun u hu hne ha => ?held, fun u hu hne ha => ?dispatcher,
    fun f hf => ?fault, exec_not_refused i _⟩
  case done => rw [hu, returnAfter_next_of_not_waits hw, heldAfter_of_enabled a t hen]
  case waits =>
    have hUnderWay : (returnsLater u).result ≠ .notEnabled := by simp [returnsLater]
    rw [hu, returnAfter_next_of_waits hw, heldAfter_of_enabled a t hUnderWay]
  case held => rw [hu, returnAfter_next_of_notEnabled hne, heldAfter_of_notEnabled t hne ha]
  case dispatcher => rw [hu, returnAfter_next_of_notEnabled hne, ha, heldAfter_dispatcher]
  case fault => rw [hf, returnAfter, heldAfter]

end Sys2Proof.Machine
end

-- The state as a whole: the invariants (O8, O10, O11), what a step records (O14, O15), the writers (O16, O36), the registers (O60).
section
/-! ## The invariants hold at reset and are kept

The invariants are kept group by group: CUR, DSTATE and ATTEMPT change together (`CurFits`, `Invariants.dispatched`), and so do
the bus, the port, TLOCK and the transport operation under way (`BusFits`, `Invariants.transported`). Each effect of an
instruction and each final step of a transport operation is then one or two of these changes. -/

namespace Sys2Proof.Machine

/-! ### What the end of an exchange and the retry decision leave as it was -/

section

variable (s : State) (n : Nat) (a : LineAnswer) (r : PendingRequest) (o : ExchangeOutcome)

@[simp] theorem exchangeAnswered_cur : (s.exchangeAnswered n a).cur = s.cur := by cases a <;> rfl
@[simp] theorem exchangeAnswered_dstate : (s.exchangeAnswered n a).dstate = s.dstate := by cases a <;> rfl
@[simp] theorem exchangeAnswered_xop : (s.exchangeAnswered n a).xop = .idle := by cases a <;> rfl

@[simp] theorem attemptEnded_crcAcc : (s.attemptEnded r o).crcAcc = s.crcAcc := by
  unfold State.attemptEnded; split_ifs <;> rfl
@[simp] theorem attemptEnded_queue : (s.attemptEnded r o).queue = s.queue := by
  unfold State.attemptEnded; split_ifs <;> rfl
@[simp] theorem attemptEnded_enqSeq : (s.attemptEnded r o).enqSeq = s.enqSeq := by
  unfold State.attemptEnded; split_ifs <;> rfl
@[simp] theorem attemptEnded_cur : (s.attemptEnded r o).cur = s.cur := by
  unfold State.attemptEnded; split_ifs <;> rfl
@[simp] theorem attemptEnded_busState : (s.attemptEnded r o).busState = s.busState := by
  unfold State.attemptEnded; split_ifs <;> rfl
@[simp] theorem attemptEnded_offlineReason : (s.attemptEnded r o).offlineReason = s.offlineReason := by
  unfold State.attemptEnded; split_ifs <;> rfl
@[simp] theorem attemptEnded_disposed : (s.attemptEnded r o).disposed = s.disposed := by
  unfold State.attemptEnded; split_ifs <;> rfl

end

/-! ### The invariants of the dispatcher and of the transport, each as a relation of their elements -/

/-- CUR, DSTATE and ATTEMPT fit together when the most attempts are `most` (R28, R30, R32, R227). -/
structure CurFits (most : Nat) (c : Option PendingRequest) (d : DState) (n : Nat) : Prop where
  bounds : ∀ r, c = some r → RequestBounds r
  held : c.isSome = true ↔ (d = .exch ∨ d = .backoff ∨ d = .deliver)
  bound : n ≤ most
  zero : c = none → n = 0
  left : (d = .exch ∨ d = .backoff) → n < most

/-- Nothing is in flight in the resting states (R28, R30). -/
theorem CurFits.resting {d : DState} (hd : d = .idle ∨ d = .sleep) (most : Nat) : CurFits most none d 0 := by
  rcases hd with rfl | rfl <;> constructor <;> simp

theorem CurFits.inFlight {most n : Nat} {r : PendingRequest} {d : DState} (hr : RequestBounds r)
    (hd : d = .exch ∨ d = .backoff ∨ d = .deliver) (hn : n ≤ most) (hl : (d = .exch ∨ d = .backoff) → n < most) :
    CurFits most (some r) d n where
  bounds := by simpa using hr
  held := by simpa using hd
  bound := hn
  zero := by simp
  left := hl

/-- The bus, the port and the transport operation under way fit together and fit the dispatcher's state
(R31, R35, R266, R269, R344). -/
structure BusFits (s : State) (b : BusState) (y : OfflineReason) (p : Bool) (x : TransportOp) : Prop where
  reason : y = .none ↔ b ≠ .offline
  port : s.dstate ≠ .stopped → (p = true ↔ b = .online)
  connecting : b = .connecting ↔ x = .connect
  exchange : ∀ n a, x = .exchange n a → s.dstate = .exch ∧ ∃ r, s.cur = some r ∧ r.expLen = n
  stopped : s.dstate = .stopped → p = false ∧ x ≠ .connect

/-- A closed port on an OFFLINE bus fits every state of the dispatcher, once no operation is under way. -/
theorem BusFits.offline (s : State) {y : OfflineReason} (hy : y ≠ .none) : BusFits s .offline y false .idle := by
  constructor <;> simp [hy]

theorem badLengths_eq_false_iff (r : PendingRequest) : badLengths r.payload r.expLen = false ↔ RequestBounds r := by
  simp only [badLengths, payloadTooLong, RequestBounds, Bool.or_eq_false_iff, decide_eq_false_iff_not]
  simp only [Config.txMax, Config.rxMax]
  omega

theorem lockOf_eq_free_iff (x : TransportOp) : lockOf x = .free ↔ x = .idle := by
  cases x <;> simp [lockOf]

theorem Cause.code_mem_range (c : Cause) : 1 ≤ c.code.toNat ∧ c.code.toNat ≤ 13 := by
  cases c <;> decide

namespace Invariants

variable {s t : State}

/-! ### What the invariants say of a state, regrouped -/

theorem of_sameCore (hs : Invariants s) (h : SameCore s t) : Invariants t := by
  cases s
  cases t
  obtain ⟨rfl, rfl, rfl, rfl, rfl, rfl, rfl, rfl, rfl, rfl, rfl, rfl, rfl, rfl, rfl, rfl, rfl, rfl, rfl⟩ := h
  exact { hs with }

theorem curFits (hs : Invariants s) : CurFits s.params.maxAttempts s.cur s.dstate s.attempt :=
  ⟨hs.curBounds, hs.curHeld, hs.attemptBound, hs.attemptZero, hs.attemptLeft⟩

theorem busFits (hs : Invariants s) : BusFits s s.busState s.offlineReason s.portOpen s.xop :=
  ⟨hs.reason, hs.portOnline, hs.connecting, hs.attemptExchange, fun h => by
    obtain ⟨-, -, hp, hx⟩ := hs.stopped h
    exact ⟨hp, hx⟩⟩

theorem xop_idle (hs : Invariants s) (hk : s.tlock = .free) : s.xop = .idle :=
  (lockOf_eq_free_iff s.xop).1 (hs.lock ▸ hk)

theorem dstate_ne_stopped (hs : Invariants s) (hd : s.disposed = false) : s.dstate ≠ .stopped := fun h => by
  obtain ⟨hd', -⟩ := hs.stopped h
  simp [hd] at hd'

theorem no_exchange (hs : Invariants s) (h : s.dstate ≠ .exch) (n : Nat) (a : Bool) : s.xop ≠ .exchange n a :=
  fun hx => h (hs.attemptExchange n a hx).1

theorem cur_eq_none (hs : Invariants s) (h : s.dstate = .idle ∨ s.dstate = .sleep) : s.cur = none := by
  have hHeld := hs.curHeld
  rcases h with h | h <;> simpa [h] using hHeld

/-! ### One rule per group of elements -/

theorem raise (hs : Invariants s) (c : Cause) (q : Option Nat) (info : List Byte) : Invariants (s.raise c q info) :=
  { hs with
    lastCause := by simp
    causeCodes := by
      intro e he
      rcases List.mem_append.1 he with h | h
      · exact hs.causeCodes e h
      · rw [List.mem_singleton.1 h]
        exact c.code_mem_range }

theorem received (hs : Invariants s) {buf : List Byte} {count : Nat} (hb : buf.length ≤ 255) (hc : count ≤ buf.length) :
    Invariants { s with rxb := buf, rxCount := count } :=
  { hs with rxbBound := hb, rxCountBound := hc }

theorem queued (hs : Invariants s) {q : List PendingRequest} (hq : ∀ r ∈ q, RequestBounds r)
    (hcap : ∀ n, s.params.queueDepth = some n → q.length ≤ n) (hst : s.dstate = .stopped → q = []) :
    Invariants { s with queue := q } :=
  { hs with
    capacity := hcap
    queueBounds := hq
    stopped := fun h => by
      obtain ⟨hd, -, hp⟩ := hs.stopped h
      exact ⟨hd, hst h, hp⟩ }

/-- The dispatcher moves on (R224 to R229): CUR, DSTATE and ATTEMPT change together, while no exchange is under way. -/
theorem dispatched (hs : Invariants s) {c : Option PendingRequest} {d : DState} {n : Nat}
    (hf : CurFits s.params.maxAttempts c d n) (hst : s.dstate ≠ .stopped) (hd : d ≠ .stopped)
    (hx : ∀ n a, s.xop ≠ .exchange n a) : Invariants { s with cur := c, dstate := d, attempt := n } :=
  { hs with
    curBounds := hf.bounds
    curHeld := hf.held
    attemptBound := hf.bound
    attemptZero := hf.zero
    attemptLeft := hf.left
    portOnline := fun _ => hs.portOnline hst
    attemptExchange := fun n a h => absurd h (hx n a)
    stopped := fun h => absurd h hd }

/-- A transport operation takes a step (R264 to R273): the bus, the port, TLOCK and what is under way change together. -/
theorem transported (hs : Invariants s) {b : BusState} {y : OfflineReason} {p : Bool} {x : TransportOp}
    (hf : BusFits s b y p x) :
    Invariants { s with busState := b, offlineReason := y, portOpen := p, tlock := lockOf x, xop := x } :=
  { hs with
    reason := hf.reason
    portOnline := hf.port
    lock := rfl
    connecting := hf.connecting
    exchangeBounds := fun n a h => by
      obtain ⟨-, r, hr, hn⟩ := hf.exchange n a h
      exact hn ▸ (hs.curBounds r hr).2
    attemptExchange := hf.exchange
    stopped := fun h => by
      obtain ⟨hd, hq, -⟩ := hs.stopped h
      exact ⟨hd, hq, hf.stopped h⟩ }

/-! ### The effects of the instructions -/

theorem enqueued (hs : Invariants s) {r : PendingRequest} (hd : s.disposed = false) (hr : RequestBounds r)
    (hf : s.queueFull = false) : Invariants (s.enqueued r) := by
  have hBounds : ∀ q ∈ s.queue ++ [numbered r s.enqSeq], RequestBounds q := by
    intro q hq
    rcases List.mem_append.1 hq with h | h
    · exact hs.queueBounds q h
    · rw [List.mem_singleton.1 h]
      exact hr
  have hRoom : ∀ n, s.params.queueDepth = some n → (s.queue ++ [numbered r s.enqSeq]).length ≤ n := by
    intro n hn
    have hle := hs.capacity n hn
    simp only [State.queueFull, hn, decide_eq_false_iff_not] at hf
    simp only [List.length_append, List.length_singleton]
    omega
  exact { hs.queued hBounds hRoom fun h => absurd h (hs.dstate_ne_stopped hd) with }

theorem disposing (hs : Invariants s) : Invariants { s with disposed := true, hist := s.hist ++ [.disposed] } :=
  { hs with stopped := fun h => ⟨rfl, (hs.stopped h).2⟩ }

theorem connectBegun (hs : Invariants s) (hd : s.disposed = false) (hc : s.connected = false) :
    Invariants s.connectBegun := by
  have hRuns := hs.dstate_ne_stopped hd
  have hClosed : s.portOpen = false := by
    have hport := hs.portOnline hRuns
    simp only [State.connected, Bool.and_eq_false_iff, decide_eq_false_iff_not] at hc
    rcases hc with h | h
    · exact Bool.eq_false_iff.2 (mt hport.1 h)
    · exact h
  have hFits : BusFits s .connecting .none s.portOpen .connect := by
    constructor <;> simp [hClosed, hRuns]
  exact { hs.transported hFits with }

theorem disconnectBegun (hs : Invariants s) (hk : s.tlock = .free) : Invariants s.disconnectBegun := by
  have hFits : BusFits s s.busState s.offlineReason s.portOpen .disconnect :=
    { hs.busFits with
      connecting := by simp [hs.connecting, hs.xop_idle hk]
      exchange := by simp
      stopped := fun h => ⟨(hs.busFits.stopped h).1, by simp⟩ }
  exact { hs.transported hFits with }

theorem fetched (hs : Invariants s) {r : PendingRequest} {rest : List PendingRequest} (hi : s.dstate = .idle)
    (hq : s.queue = r :: rest) :
    Invariants { s with queue := rest, cur := some r, attempt := 0, dstate := .exch, hist := s.hist ++ [.deq r.seq] } := by
  have hBounds : ∀ q ∈ r :: rest, RequestBounds q := hq ▸ hs.queueBounds
  have hRest : Invariants { s with queue := rest } := by
    refine hs.queued (fun q h => hBounds q (.tail r h)) (fun n hn => ?_) (by simp [hi])
    have hle := hs.capacity n hn
    rw [hq, List.length_cons] at hle
    omega
  obtain ⟨hPos, -⟩ := hs.params
  have hFits : CurFits s.params.maxAttempts (some r) .exch 0 :=
    .inFlight (hBounds r (.head rest)) (.inl rfl) (Nat.zero_le _) fun _ => hPos
  exact { hRest.dispatched hFits (by simp [hi]) (by simp) (hs.no_exchange (by simp [hi])) with }

/-- D_SLEEP and D_WAKE (R225, R226): from one resting state to the other. -/
theorem rested (hs : Invariants s) {d : DState} (hi : s.dstate = .idle ∨ s.dstate = .sleep) (hd : d = .idle ∨ d = .sleep) :
    Invariants { s with dstate := d } := by
  have hCur := hs.cur_eq_none hi
  have hFits : CurFits s.params.maxAttempts s.cur d s.attempt := by
    rw [hCur, hs.attemptZero hCur]
    exact .resting hd _
  refine hs.dispatched hFits ?_ ?_ (hs.no_exchange ?_)
  · rcases hi with h | h <;> simp [h]
  · rcases hd with h | h <;> simp [h]
  · rcases hi with h | h <;> simp [h]

theorem exchangeBegun (hs : Invariants s) {r : PendingRequest} (he : s.dstate = .exch) (hr : s.cur = some r)
    (hk : s.tlock = .free) (b : Bool) : Invariants (s.exchangeBegun (frameOf r.payload) r.expLen b) := by
  have hFits : BusFits s s.busState s.offlineReason s.portOpen (.exchange r.expLen b) :=
    { hs.busFits with
      connecting := by simp [hs.connecting, hs.xop_idle hk]
      exchange := by
        intro n a h
        cases h
        exact ⟨he, r, hr, rfl⟩
      stopped := by simp [he] }
  have hFrame : (frameOf r.payload).length ≤ 255 := by
    obtain ⟨hLen, -⟩ := hs.curBounds r hr
    simp only [frameOf, trailer, List.length_append, List.length_cons, List.length_nil]
    omega
  exact { hs.transported hFits with txbBound := hFrame }

theorem exchangeOffline (hs : Invariants s) {n : Nat} (hn : n ≤ 255) : Invariants (s.exchangeOffline n) :=
  { hs.received (buf := zeros n) (count := 0) (by simpa [zeros] using hn) (Nat.zero_le _) with }

/-- The retry decision goes to DELIVER, or with attempts left to BACKOFF (R227). -/
theorem counted (hs : Invariants s) {r : PendingRequest} {d : DState} (he : s.dstate = .exch) (hr : s.cur = some r)
    (hx : s.xop = .idle) (hd : d = .deliver ∨ (d = .backoff ∧ s.attempt + 1 < s.params.maxAttempts)) :
    Invariants { s with attempt := s.attempt + 1, dstate := d } := by
  have hLeft : s.attempt < s.params.maxAttempts := hs.attemptLeft (.inl he)
  have hFits : CurFits s.params.maxAttempts s.cur d (s.attempt + 1) := by
    rw [hr]
    rcases hd with rfl | ⟨rfl, hMore⟩
    · exact .inFlight (hs.curBounds r hr) (.inr (.inr rfl)) hLeft (by simp)
    · exact .inFlight (hs.curBounds r hr) (.inr (.inl rfl)) hLeft fun _ => hMore
  refine hs.dispatched hFits (by simp [he]) ?_ (by simp [hx])
  rcases hd with rfl | ⟨rfl, -⟩ <;> simp

theorem attemptEnded (hs : Invariants s) {r : PendingRequest} (he : s.dstate = .exch) (hr : s.cur = some r)
    (hx : s.xop = .idle) (o : ExchangeOutcome) : Invariants (s.attemptEnded r o) := by
  have hDeliver := hs.counted he hr hx (.inl rfl)
  rcases attemptEnded_cases s r o with h | ⟨hMore, -, h⟩ | ⟨c, h⟩
  · exact h ▸ hDeliver
  · exact h ▸ hs.counted he hr hx (.inr ⟨rfl, hMore⟩)
  · exact h ▸ { hDeliver.raise c r.seq [] with }

theorem attemptOffline (hs : Invariants s) {r : PendingRequest} (he : s.dstate = .exch) (hr : s.cur = some r)
    (hk : s.tlock = .free) (o : ExchangeOutcome) : Invariants ((s.exchangeOffline r.expLen).attemptEnded r o) := by
  obtain ⟨-, -, hLen⟩ := hs.curBounds r hr
  exact (hs.exchangeOffline hLen).attemptEnded he hr (hs.xop_idle hk) o

/-- D_RETRY (R228): BACKOFF ends in EXCH, or after DISPOSE in DELIVER. -/
theorem backedOff (hs : Invariants s) {d : DState} (hb : s.dstate = .backoff) (hd : d = .exch ∨ d = .deliver) :
    Invariants { s with dstate := d } := by
  have hFits : CurFits s.params.maxAttempts s.cur d s.attempt :=
    { hs.curFits with
      held := by
        have hHeld := hs.curHeld
        rcases hd with rfl | rfl <;> simpa [hb] using hHeld
      left := fun _ => hs.attemptLeft (.inr hb) }
  refine hs.dispatched hFits (by simp [hb]) ?_ (hs.no_exchange (by simp [hb]))
  rcases hd with rfl | rfl <;> simp

theorem delivered (hs : Invariants s) (hd : s.dstate = .deliver) (es : List Event) :
    Invariants { s with cur := none, attempt := 0, dstate := .idle, hist := s.hist ++ es } :=
  { hs.dispatched (.resting (.inl rfl) _) (by simp [hd]) (by simp) (hs.no_exchange (by simp [hd])) with }

theorem drained (hs : Invariants s) (hd : s.disposed = true) (hi : s.dstate = .idle ∨ s.dstate = .sleep)
    (hk : s.tlock = .free) (es : List Event) :
    Invariants { s with queue := [], dstate := .stopped, portOpen := false, hist := s.hist ++ es } :=
  { hs with
    capacity := fun _ _ => Nat.zero_le _
    queueBounds := by simp
    curHeld := by simp [hs.cur_eq_none hi]
    attemptLeft := by simp
    portOnline := by simp
    attemptExchange := by simp [hs.xop_idle hk]
    stopped := fun _ => ⟨hd, rfl, rfl, by simp [hs.xop_idle hk]⟩ }

/-- Every effect of an instruction keeps the invariants, each by its own rule. -/
theorem of_effect (hs : Invariants s) (h : Effect s t) : Invariants t := by
  cases h with
  | quiet => exact hs
  | raised c info => exact hs.raise c none info
  | accumulated v => exact { hs with }
  | enqueued r hd hl hf => exact hs.enqueued hd ((badLengths_eq_false_iff r).1 hl) hf
  | sent r ws hd hl hf => exact { hs.enqueued hd ((badLengths_eq_false_iff r).1 hl) hf with }
  | disposed hd => exact hs.disposing
  | connectBegun hd hc hk => exact hs.connectBegun hd hc
  | disconnectBegun hk => exact hs.disconnectBegun hk
  | fetched r rest hi hd hq => exact hs.fetched hi hq
  | slept hi hd hq => exact hs.rested (.inl hi) (.inr rfl)
  | woke hi hd => exact hs.rested (.inr hi) (.inl rfl)
  | attemptBegun r b he hr hp hk hc => exact hs.exchangeBegun he hr hk b
  | attemptOffline r he hr hp hk hc => exact hs.attemptOffline he hr hk _
  | retried hb hd => exact hs.backedOff hb (.inl rfl)
  | abandoned hb hd => exact { (hs.backedOff hb (.inr rfl)).raise .commandFailure s.curSeq [] with }
  | delivered r d hd hr ha => exact hs.delivered hd _
  | stopped es hd hi hk he => exact hs.drained hd hi hk es

/-! ### The final steps of the transport operations -/

theorem connectOpened (hs : Invariants s) (hx : s.xop = .connect) : Invariants s.connectOpened := by
  have hConnecting : s.busState = .connecting := hs.connecting.2 hx
  have hFits : BusFits s .online s.offlineReason true .idle :=
    { reason := by simp [hs.reason, hConnecting]
      port := by simp
      connecting := by simp
      exchange := by simp
      stopped := fun h => absurd hx (hs.busFits.stopped h).2 }
  exact { hs.transported hFits with }

theorem connectFailed (hs : Invariants s) {y : OfflineReason} (hy : y ≠ .none) (c : Cause) :
    Invariants (s.connectFailed y c) :=
  { (hs.transported (.offline s hy)).raise c none [] with }

theorem disconnectEnded (hs : Invariants s) (es : List Event) :
    Invariants
      { s with
        portOpen := false
        busState := .offline
        offlineReason := .disconnected
        hist := s.hist ++ es
        tlock := .free
        xop := .idle } :=
  { hs.transported (.offline s (y := .disconnected) (by simp)) with }

theorem exchangeAnswered (hs : Invariants s) {n : Nat} {b : Bool} (hx : s.xop = .exchange n b) (a : LineAnswer) :
    Invariants (s.exchangeAnswered n a) := by
  obtain ⟨-, hn⟩ := hs.exchangeBounds n b hx
  rcases exchangeAnswered_cases s n a with ⟨buf, count, hBuf, hCount, h⟩ | h
  · have hFits : BusFits s s.busState s.offlineReason s.portOpen .idle :=
      { hs.busFits with
        connecting := by simp [hs.connecting, hx]
        exchange := by simp
        stopped := fun h => ⟨(hs.busFits.stopped h).1, by simp⟩ }
    rw [h]
    exact { (hs.transported hFits).received (buf := buf) (count := count) (by omega) (by omega) with }
  · rw [h]
    have hOffline := hs.transported (.offline s (y := .ioErrorExchange) (by simp))
    have hZeros := hOffline.received (buf := zeros n) (count := 0) (by simpa [zeros] using hn) (Nat.zero_le _)
    exact { hZeros.raise .ioErrorExchange s.curSeq [] with }

theorem of_ending (hs : Invariants s) (h : Ending s t) : Invariants t := by
  cases h with
  | opened hx => exact hs.connectOpened hx
  | failed y c hx hy => exact hs.connectFailed hy c
  | disconnected hx => exact hs.disconnectEnded _
  | exchanged n b a hx hb => exact hs.exchangeAnswered hx a
  | attempted n b r a hx hr =>
    obtain ⟨he, -⟩ := hs.attemptExchange n b hx
    exact (hs.exchangeAnswered hx a).attemptEnded (by simp [he]) (by simp [hr]) (by simp) _

end Invariants

/-! ### Reset -/

/-- At reset nothing is queued, in flight, under way or logged, and the port is closed (R53). -/
theorem reset_invariants : Invariants State.reset where
  params := by simp [State.reset, ParamsLegal, Params.decided]
  txbBound := Nat.zero_le _
  rxbBound := Nat.zero_le _
  rxCountBound := Nat.zero_le _
  capacity _ _ := Nat.zero_le _
  queueBounds := by simp [State.reset]
  curBounds := by simp [State.reset]
  curHeld := by simp [State.reset]
  attemptBound := Nat.zero_le _
  attemptZero _ := rfl
  attemptLeft := by simp [State.reset]
  reason := by simp [State.reset]
  portOnline := by simp [State.reset]
  lock := rfl
  connecting := by simp [State.reset]
  exchangeBounds := by simp [State.reset]
  attemptExchange := by simp [State.reset]
  stopped := by simp [State.reset]
  lastCause := rfl
  causeCodes := by simp [State.reset]

theorem reset_fifoInv : FifoInv State.reset := ⟨rfl, rfl, rfl⟩

/-- Settles O8: the fields of `State.reset` are the values of R53. -/
theorem resetHoldsStatedValues : Obligations.ResetHoldsStatedValues := by
  unfold Obligations.ResetHoldsStatedValues
  and_intros <;> rfl

/-- Settles O10. -/
theorem resetMeetsInvariants : Obligations.ResetMeetsInvariants := ⟨reset_invariants, reset_fifoInv⟩

/-! ### From effects and endings to steps -/

/-- What holds of every effect, of every final step and of a change of the model's own fields holds of every move. -/
theorem Moves.lift {R : State → State → Prop} (hTrans : ∀ {s t u}, R s t → R t u → R s u)
    (hCore : ∀ {s t}, SameCore s t → R s t) (hEffect : ∀ {s t}, Effect s t → R s t)
    (hEnding : ∀ {s t}, Ending s t → R s t) {s t : State} (h : Moves s t) : R s t := by
  obtain ⟨u, v, hsu, huv, hvt⟩ := h
  have hR : R u v := by
    rcases huv with rfl | huv | huv
    · exact hCore (.refl v)
    · exact hEffect huv
    · exact hEnding huv
  exact hTrans (hTrans (hCore hsu) hR) (hCore hvt)

theorem Moves.keeps_invariants {s t : State} (h : Moves s t) : Invariants s → Invariants t :=
  h.lift (R := fun s t => Invariants s → Invariants t) (fun h k hs => k (h hs)) (fun h hs => hs.of_sameCore h)
    (fun h hs => hs.of_effect h) (fun h hs => hs.of_ending h)

/-- The same for what holds only in states with the invariants, which every move keeps. -/
theorem Moves.lift_of_invariants {R : State → State → Prop} (hTrans : ∀ {s t u}, R s t → R t u → R s u)
    (hCore : ∀ {s t}, SameCore s t → R s t) (hEffect : ∀ {s t}, Invariants s → Effect s t → R s t)
    (hEnding : ∀ {s t}, Invariants s → Ending s t → R s t) {s t : State} (hs : Invariants s) (h : Moves s t) :
    R s t := by
  have hBoth : Invariants s → Invariants t ∧ R s t :=
    h.lift (R := fun s t => Invariants s → Invariants t ∧ R s t)
      (fun h k hs => ⟨(k (h hs).1).1, hTrans (h hs).2 (k (h hs).1).2⟩) (fun h hs => ⟨hs.of_sameCore h, hCore h⟩)
      (fun h hs => ⟨hs.of_effect h, hEffect hs h⟩) (fun h hs => ⟨hs.of_ending h, hEnding hs h⟩)
  exact (hBoth hs).2

/-- Settles O11: each effect and each final step keeps the invariants (`of_effect`, `of_ending`). -/
theorem stepKeepsInvariants : Obligations.StepKeepsInvariants := fun _ _ hs h => (step_moves h).keeps_invariants hs

end Sys2Proof.Machine
end

section
/-! ## What every step records -/

namespace Sys2Proof.Machine

/-- What no step undoes: the history and LOG are only appended to, the parameters are fixed, ENQ_SEQ does not fall and
DISPOSED stays (R37, R38, R44, R340). -/
structure Grows (s t : State) : Prop where
  hist : s.hist <+: t.hist
  log : s.log <+: t.log
  params : t.params = s.params
  enqSeq : s.enqSeq ≤ t.enqSeq
  disposed : s.disposed = true → t.disposed = true

theorem Grows.trans {s t u : State} (h : Grows s t) (k : Grows t u) : Grows s u :=
  ⟨h.hist.trans k.hist, h.log.trans k.log, k.params.trans h.params, h.enqSeq.trans k.enqSeq, k.disposed ∘ h.disposed⟩

theorem SameCore.grows {s t : State} (h : SameCore s t) : Grows s t := by
  constructor <;> simp [h.hist, h.log, h.params, h.enqSeq, h.disposed]

theorem exchangeAnswered_grows (s : State) (n : Nat) (a : LineAnswer) : Grows s (s.exchangeAnswered n a) := by
  rcases exchangeAnswered_cases s n a with ⟨buf, count, -, -, h⟩ | h <;> rw [h] <;> constructor <;> simp

theorem attemptEnded_grows (s : State) (r : PendingRequest) (o : ExchangeOutcome) : Grows s (s.attemptEnded r o) := by
  rcases attemptEnded_cases s r o with h | ⟨-, -, h⟩ | ⟨c, h⟩ <;> rw [h] <;> constructor <;> simp

theorem exchangeOffline_grows (s : State) (n : Nat) : Grows s (s.exchangeOffline n) := by
  constructor <;> simp

theorem Effect.grows {s t : State} (h : Effect s t) : Grows s t := by
  cases h with
  | attemptOffline r => exact (exchangeOffline_grows s _).trans (attemptEnded_grows _ r _)
  | _ => constructor <;> simp

theorem Ending.grows {s t : State} (h : Ending s t) : Grows s t := by
  cases h with
  | exchanged n b a => exact exchangeAnswered_grows s n a
  | attempted n b r a => exact (exchangeAnswered_grows s n a).trans (attemptEnded_grows _ r _)
  | _ => constructor <;> simp

theorem Moves.grows {s t : State} (h : Moves s t) : Grows s t :=
  h.lift (R := Grows) Grows.trans SameCore.grows Effect.grows Ending.grows

/-! ### STOPPED is not left -/

theorem Effect.keeps_stopped {s t : State} (h : Effect s t) (hst : s.dstate = .stopped) : t.dstate = .stopped := by
  cases h with
  | fetched _ _ hd | slept hd | woke hd | attemptOffline _ hd | retried hd | abandoned hd | delivered _ _ hd =>
    simp [hd] at hst
  | stopped => rfl
  | _ => exact hst

/-- An attempt of CUR does not end in STOPPED, because the dispatcher is in EXCH while it is under way (R344). -/
theorem Ending.keeps_stopped {s t : State} (hs : Invariants s) (h : Ending s t) (hst : s.dstate = .stopped) :
    t.dstate = .stopped := by
  cases h with
  | opened | failed | disconnected => exact hst
  | exchanged n b a => simpa using hst
  | attempted n b r a hx =>
    obtain ⟨hd, -⟩ := hs.attemptExchange n b hx
    simp [hd] at hst

theorem Moves.keeps_stopped {s t : State} (hs : Invariants s) (h : Moves s t) :
    s.dstate = .stopped → t.dstate = .stopped :=
  h.lift_of_invariants (R := fun s t => s.dstate = .stopped → t.dstate = .stopped) (fun h k => k ∘ h)
    (fun h hst => h.dstate.trans hst) (fun _ h => h.keeps_stopped) (fun hs h => h.keeps_stopped hs) hs

/-- Settles O14: nothing that `Grows` names is undone, and STOPPED is not left. -/
theorem stepOnlyAppendsHistory : Obligations.StepOnlyAppendsHistory := by
  intro s t h
  have hMoves := step_moves h
  obtain ⟨⟨es, hHist⟩, ⟨ls, hLog⟩, hParams, hSeq, hDisposed⟩ := hMoves.grows
  exact ⟨⟨es, hHist.symm⟩, ⟨ls, hLog.symm⟩, hParams, hSeq, hDisposed, fun hs => hMoves.keeps_stopped hs⟩

/-! ### The Bus events -/

/-- The bus state and its reason are as they were, or a new Bus event names both. -/
def BusRecorded (s t : State) : Prop :=
  ∃ es, t.hist = s.hist ++ es ∧
    ((t.busState = s.busState ∧ t.offlineReason = s.offlineReason) ∨ .bus t.busState t.offlineReason ∈ es)

theorem BusRecorded.of_same {s t : State} (hHist : s.hist <+: t.hist) (hBus : t.busState = s.busState)
    (hReason : t.offlineReason = s.offlineReason) : BusRecorded s t := by
  obtain ⟨es, h⟩ := hHist
  exact ⟨es, h.symm, .inl ⟨hBus, hReason⟩⟩

theorem BusRecorded.of_event {s t : State} {es : List Event} (hHist : t.hist = s.hist ++ es)
    (hEvent : .bus t.busState t.offlineReason ∈ es) : BusRecorded s t :=
  ⟨es, hHist, .inr hEvent⟩

theorem BusRecorded.trans {s t u : State} (h : BusRecorded s t) (k : BusRecorded t u) : BusRecorded s u := by
  obtain ⟨es, hst, hes⟩ := h
  obtain ⟨fs, htu, hfs⟩ := k
  refine ⟨es ++ fs, by rw [htu, hst, List.append_assoc], ?_⟩
  rcases hfs with ⟨hBus, hReason⟩ | hMem
  · rw [hBus, hReason]
    exact hes.imp_right (List.mem_append_left fs)
  · exact .inr (List.mem_append_right es hMem)

theorem exchangeAnswered_busRecorded (s : State) (n : Nat) (a : LineAnswer) : BusRecorded s (s.exchangeAnswered n a) := by
  rcases exchangeAnswered_cases s n a with ⟨buf, count, -, -, h⟩ | h
  · exact h ▸ .of_same (by simp) rfl rfl
  · exact h ▸ .of_event rfl (by simp)

theorem attemptEnded_busRecorded (s : State) (r : PendingRequest) (o : ExchangeOutcome) :
    BusRecorded s (s.attemptEnded r o) :=
  .of_same (attemptEnded_grows s r o).hist (by simp) (by simp)

theorem Effect.busRecorded {s t : State} (h : Effect s t) : BusRecorded s t := by
  have hHist := h.grows.hist
  cases h with
  | connectBegun => exact .of_event rfl (by simp)
  | attemptOffline r =>
    exact (BusRecorded.of_same (exchangeOffline_grows s _).hist rfl rfl).trans (attemptEnded_busRecorded _ r _)
  | _ => exact .of_same hHist rfl rfl

theorem Ending.busRecorded {s t : State} (hs : Invariants s) (h : Ending s t) : BusRecorded s t := by
  cases h with
  | opened hx =>
    have hReason : s.offlineReason = .none := hs.reason.2 (by simp [hs.connecting.2 hx])
    exact .of_event rfl (by simp [hReason])
  | failed y c => exact .of_event (es := [.bus .offline y, .logged c.code none []]) (by simp) (by simp)
  | disconnected => exact .of_event rfl (by simp)
  | exchanged n b a => exact exchangeAnswered_busRecorded s n a
  | attempted n b r a => exact (exchangeAnswered_busRecorded s n a).trans (attemptEnded_busRecorded _ r _)

/-- Settles O15: a change of the bus state leaves only the second case of `BusRecorded`. -/
theorem busChangesAreRecorded : Obligations.BusChangesAreRecorded := by
  intro s t hs h hne
  have hRecorded : BusRecorded s t :=
    (step_moves h).lift_of_invariants (R := BusRecorded) BusRecorded.trans
      (fun h => .of_same h.grows.hist h.busState h.offlineReason) (fun _ h => h.busRecorded) (fun hs h => h.busRecorded hs) hs
  obtain ⟨es, hHist, ⟨hBus, -⟩ | hEvent⟩ := hRecorded
  · exact absurd hBus hne
  · exact ⟨es, hHist, hEvent⟩

end Sys2Proof.Machine
end

section
/-! ## Which instructions write which elements -/

namespace Sys2Proof.Machine

open Sys2Proof.Claim

/-- What `i` may write from `s` to `t`, an element with few writers at a time (R22 to R28, R37, R223, R344). -/
structure Writes (i : Instr) (s t : State) : Prop where
  crcAcc : i ≠ .crcInit → (∀ b, i ≠ .crcByte b) → t.crcAcc = s.crcAcc
  buffers : (∀ f n, i ≠ .exchange f n) → i ≠ .dAttempt → t.txb = s.txb ∧ t.rxb = s.rxb ∧ t.rxCount = s.rxCount
  appends : i ≠ .dFetch → i ≠ .dStop → i ≠ .disconnect true → ∃ rs, t.queue = s.queue ++ rs
  queue : invokedBy i ≠ .producer → i ≠ .dFetch → i ≠ .dStop → i ≠ .disconnect true → t.queue = s.queue
  enqSeq : invokedBy i ≠ .producer → t.enqSeq = s.enqSeq
  cur : i ≠ .dFetch → i ≠ .dDeliver → (∀ r buf count, i ≠ .decode r buf count) → t.cur = s.cur
  disposed : i ≠ .dispose → t.disposed = s.disposed

/-- If a step answers a next state, that is one `i` may write. -/
def StepWrites (i : Instr) (s : State) (o : Step) : Prop := ∀ t, o = .next t → Writes i s t

section

variable {i : Instr} {s u : State}

theorem next_writes (h : Writes i s u) (x : OpResult) : StepWrites i s (.next (u.withResult x)) := by
  intro t ht
  cases ht
  exact ⟨h.crcAcc, h.buffers, h.appends, h.queue, h.enqSeq, h.cur, h.disposed⟩

theorem reply_writes (h : Writes i s u) (v : Reply) : StepWrites i s (reply v u) := next_writes h _

theorem underWay_writes (h : Writes i s u) : StepWrites i s (underWay u) := next_writes h _

theorem fault_writes (f : Fault) : StepWrites i s (.fault f) := fun _ ht => nomatch ht

theorem writes_self (i : Instr) (s : State) : Writes i s s := by
  constructor <;> simp

theorem refuse_writes (c : Cause) (info : List Byte) : StepWrites i s (refuse c info s) :=
  next_writes (by constructor <;> simp) _

theorem notEnabled_writes : StepWrites i s (notEnabled s) := next_writes (writes_self i s) _

theorem answer_writes (v : Reply) : StepWrites i s (reply v s) := reply_writes (writes_self i s) v

theorem ite_writes {p : Prop} [Decidable p] {a b : Step} (ha : StepWrites i s a) (hb : StepWrites i s b) :
    StepWrites i s (if p then a else b) := by
  split
  · exact ha
  · exact hb

theorem guarded_writes {k : Step} (h : StepWrites i s k) : StepWrites i s (guarded i s k) :=
  ite_writes h (refuse_writes _ _)

/-! ### The shared operations -/

theorem decoderFor_writes (k : Kind) (r : PendingRequest) (d : Except Fault Decoded) :
    StepWrites i s (decoderFor k r d s) := by
  refine ite_writes ?_ (refuse_writes _ _)
  cases d with
  | ok d => exact answer_writes _
  | error f => exact fault_writes f

theorem writes_enqueued (hi : invokedBy i = .producer) (r : PendingRequest) (ws : List SendWait) :
    Writes i s { s.enqueued r with sends := ws } := by
  constructor <;> simp [hi]

theorem enqueueRequest_writes (hi : invokedBy i = .producer) (r : PendingRequest) :
    StepWrites i s (enqueueRequest r s) :=
  ite_writes (refuse_writes _ _)
    (ite_writes (refuse_writes _ _) (ite_writes notEnabled_writes (reply_writes (writes_enqueued hi r s.sends) _)))

/-- D_ATTEMPT and EXCHANGE may write what is not named here: the buffers and what the dispatcher counts by (R227, R270). -/
theorem writes_exchange {t : State} (hi : i = .dAttempt ∨ ∃ f n, i = .exchange f n) (hCrc : t.crcAcc = s.crcAcc)
    (hQueue : t.queue = s.queue) (hSeq : t.enqSeq = s.enqSeq) (hCur : t.cur = s.cur) (hDisposed : t.disposed = s.disposed) :
    Writes i s t where
  crcAcc _ _ := hCrc
  buffers hf ha := by
    rcases hi with rfl | ⟨f, n, rfl⟩
    · exact absurd rfl ha
    · exact absurd rfl (hf f n)
  appends _ _ _ := ⟨[], by simp [hQueue]⟩
  queue _ _ _ _ := hQueue
  enqSeq _ := hSeq
  cur _ _ _ := hCur
  disposed _ := hDisposed

theorem beginExchange_writes (hi : i = .dAttempt ∨ ∃ f n, i = .exchange f n) (r : PendingRequest) (b : Bool) :
    StepWrites i s (beginExchange r b s) :=
  ite_writes notEnabled_writes (ite_writes (underWay_writes (writes_exchange hi rfl rfl rfl rfl rfl))
    (reply_writes (writes_exchange hi (by simp) (by simp) (by simp) (by simp) (by simp)) _))

theorem routeBack_writes (hi : i = .dDeliver ∨ ∃ r buf count, i = .decode r buf count) (r : PendingRequest)
    (v : Decoded → Reply) : StepWrites i s (routeBack r v s) := by
  unfold routeBack
  split
  · refine reply_writes ?_ _
    rcases hi with rfl | ⟨r', buf, count, rfl⟩ <;> constructor <;> simp
  · exact fault_writes _

theorem stopDispatcher_writes (hi : i = .dStop ∨ i = .disconnect true) : StepWrites i s (stopDispatcher s) := by
  refine ite_writes ?_ notEnabled_writes
  split
  · refine reply_writes ?_ _
    rcases hi with rfl | rfl <;> constructor <;> simp
  · exact fault_writes _

end

/-! ### Every instruction -/

theorem exec_writes (i : Instr) (s : State) : StepWrites i s (exec i s) := by
  unfold exec
  cases i with
  | openCmd a0 a1 | closeCmd a0 a1 | stopCmd a0 a1 | qpos a0 a1 | qstate a0 a1 | qdir a0 a1 | handshake a0 a1
  | register n0 n1 | enqueue r => exact guarded_writes (enqueueRequest_writes rfl _)
  | move a0 a1 p | setdir a0 a1 d | generic p n t =>
    exact guarded_writes (ite_writes (refuse_writes _ _) (enqueueRequest_writes rfl _))
  | send o p n t =>
    exact guarded_writes (ite_writes (refuse_writes _ _) (ite_writes (refuse_writes _ _)
      (ite_writes notEnabled_writes (underWay_writes (writes_enqueued rfl _ _)))))
  | crcRead | expLen p hint | mkOpen o a0 a1 | mkClose o a0 a1 | mkStop o a0 a1 | mkQpos o a0 a1 | mkQstate o a0 a1
  | mkQdir o a0 a1 | mkHandshake o a0 a1 | mkRegister o n0 n1 | vBase buf count n | vCrc buf count | vAddr r buf
  | vEcho r buf | vRegack r buf | vSuccess r buf count | uartEncode bs => exact guarded_writes (answer_writes _)
  | checksum bs | build p | mkMove o a0 a1 p | mkSetdir o a0 a1 d | mkGeneric o p n t | readStatus k =>
    exact guarded_writes (ite_writes (refuse_writes _ _) (answer_writes _))
  | decPos r buf count | decState r buf count | decDir r buf count | decVersion r buf count | decRegack r buf count =>
    exact guarded_writes (decoderFor_writes _ r _)
  | crcInit | crcByte b => exact guarded_writes (reply_writes (by constructor <;> simp) _)
  | dispose => exact guarded_writes (ite_writes (answer_writes _) (reply_writes (by constructor <;> simp) _))
  | dSleep | dWake =>
    exact guarded_writes (ite_writes (reply_writes (by constructor <;> simp) _) notEnabled_writes)
  | dRetry =>
    exact guarded_writes (ite_writes (ite_writes (reply_writes (by constructor <;> simp) _)
      (reply_writes (by constructor <;> simp) _)) notEnabled_writes)
  | dFetch =>
    refine guarded_writes (ite_writes ?_ notEnabled_writes)
    split
    · exact reply_writes (by constructor <;> simp) _
    · exact notEnabled_writes
  | dAttempt =>
    refine guarded_writes ?_
    split
    · exact ite_writes (refuse_writes _ _) (beginExchange_writes (.inl rfl) _ true)
    · exact notEnabled_writes
  | exchange f n =>
    refine guarded_writes (ite_writes (refuse_writes _ _) ?_)
    split
    · exact ite_writes (beginExchange_writes (.inr ⟨f, n, rfl⟩) _ false) notEnabled_writes
    · exact notEnabled_writes
  | dDeliver =>
    refine guarded_writes ?_
    split
    · exact routeBack_writes (.inl rfl) _ _
    · exact notEnabled_writes
  | decode r buf count =>
    exact guarded_writes (ite_writes (routeBack_writes (.inr ⟨r, buf, count, rfl⟩) r _) notEnabled_writes)
  | dStop => exact guarded_writes (stopDispatcher_writes (.inl rfl))
  | disconnect permanent =>
    cases permanent with
    | true =>
      refine guarded_writes ?_
      rw [if_pos rfl]
      exact stopDispatcher_writes (.inr rfl)
    | false =>
      refine guarded_writes ?_
      rw [if_neg Bool.false_ne_true]
      exact ite_writes (underWay_writes (by constructor <;> simp)) notEnabled_writes
  | connect =>
    exact guarded_writes (ite_writes (refuse_writes _ _)
      (ite_writes (answer_writes _) (ite_writes (underWay_writes (by constructor <;> simp)) notEnabled_writes)))

/-- Whatever instruction it was: a buffer is written only at an exchange of CUR (R344). -/
theorem Effect.exchange_of_buffers {s t : State} (h : Effect s t)
    (hne : t.txb ≠ s.txb ∨ t.rxb ≠ s.rxb ∨ t.rxCount ≠ s.rxCount) : s.dstate = .exch ∧ s.cur ≠ none := by
  cases h with
  | attemptBegun r _ hd hr | attemptOffline r hd hr => exact ⟨hd, by simp [hr]⟩
  | _ => simp at hne

/-- Settles O16: `exec_writes` for the writers, `exec_effect` for the exchange of CUR. -/
theorem elementsHaveTheirWriters : Obligations.ElementsHaveTheirWriters := by
  intro i s t h
  obtain ⟨hCrc, hBuffers, hAppends, hQueue, hSeq, hCur, -⟩ := exec_writes i s t h
  obtain ⟨u, x, hu, rfl⟩ := exec_effect h
  exact ⟨hCrc, hBuffers, hu.exchange_of_buffers, hAppends, hQueue, hSeq, hCur⟩

/-! ## DISPOSED -/

section

variable {s : State}

theorem guarded_of_permitted {i : Instr} (h : permitted i s.agent = true) (k : Step) : guarded i s k = k := if_pos h

/-- Of ENQUEUE, SEND and CONNECT the check of DISPOSED is the first one after permission (R307). -/
theorem exec_enqueue_of_disposed (hd : s.disposed = true) (r : PendingRequest) (hp : permitted (.enqueue r) s.agent = true) :
    exec (.enqueue r) s = .next (refusedWith s .disposed 12#8 r.payload) :=
  (guarded_of_permitted hp _).trans (if_pos hd)

theorem exec_send_of_disposed (hd : s.disposed = true) (o : SessionId) (p : List Byte) (n : Nat) (t : Option ChannelTag)
    (hp : permitted (.send o p n t) s.agent = true) :
    exec (.send o p n t) s = .next (refusedWith s .disposed 12#8 p) :=
  (guarded_of_permitted hp _).trans (if_pos hd)

theorem exec_connect_of_disposed (hd : s.disposed = true) (hp : permitted .connect s.agent = true) :
    exec .connect s = .next (refusedWith s .disposed 12#8 []) :=
  (guarded_of_permitted hp _).trans (if_pos hd)

end

/-- Settles O36: `Grows` keeps DISPOSED, `Writes` names its one writer, and the three operations check it first. -/
theorem disposedIsForever : Obligations.DisposedIsForever := by
  refine ⟨rfl, fun s t h => (step_moves h).grows.disposed, fun i s t h hs ht => ?_, fun s i hd hp hi => ?_⟩
  · by_contra hne
    have hSame := (exec_writes i s t h).disposed hne
    simp [hs, ht] at hSame
  · rcases hi with ⟨r, rfl⟩ | ⟨o, p, n, t, rfl⟩ | rfl
    · exact ⟨_, exec_enqueue_of_disposed hd r hp⟩
    · exact ⟨_, exec_send_of_disposed hd o p n t hp⟩
    · exact ⟨_, exec_connect_of_disposed hd hp⟩

end Sys2Proof.Machine
end

section
/-! ## The status registers field by field

Each register is a concatenation of its fields (10_state.md section 9): a field is what is left when the fields below it and
the fields above it are dropped. `Layout` reads the fields as bit vectors; what `Invariants` bounds is then read as a number. -/

namespace Sys2Proof.Machine

/-- The places of the fields of R45 to R51, as bit vectors. -/
structure Layout (s : State) : Prop where
  busState : (s.view 0).extractLsb' 0 2 = busStateCode s.busState
  portOpen : (s.view 0).extractLsb' 2 1 = bit s.portOpen
  lockHeld : (s.view 0).extractLsb' 3 1 = bit s.lockHeld
  disposed : (s.view 0).extractLsb' 4 1 = bit s.disposed
  busReserved : (s.view 0).extractLsb' 5 3 = 0#3
  offlineReason : (s.view 0).extractLsb' 8 4 = reasonCode s.offlineReason
  busReservedHigh : (s.view 0).extractLsb' 12 20 = 0#20
  queueLength : (s.view 1).extractLsb' 0 16 = BitVec.ofNat 16 (min s.queue.length 0xFFFF)
  queueEmpty : (s.view 1).extractLsb' 16 1 = bit s.queueEmpty
  queueFull : (s.view 1).extractLsb' 17 1 = bit s.queueFull
  queueReserved : (s.view 1).extractLsb' 18 14 = 0#14
  dstate : (s.view 2).extractLsb' 0 3 = dstateCode s.dstate
  curValid : (s.view 2).extractLsb' 3 1 = bit s.curValid
  attempt : (s.view 2).extractLsb' 4 4 = BitVec.ofNat 4 s.attempt
  curExpLen : (s.view 2).extractLsb' 8 8 = s.curExpLen
  curKind : (s.view 2).extractLsb' 16 4 = s.curKind
  dispReserved : (s.view 2).extractLsb' 20 12 = 0#12
  crcAcc : (s.view 3).extractLsb' 0 16 = s.crcAcc
  crcReserved : (s.view 3).extractLsb' 16 16 = 0#16
  rxCount : (s.view 4).extractLsb' 0 8 = BitVec.ofNat 8 s.rxCount
  rxLength : (s.view 4).extractLsb' 8 8 = BitVec.ofNat 8 s.rxb.length
  rxBaseValid : (s.view 4).extractLsb' 16 1 = bit s.rxBaseValid
  rxReserved : (s.view 4).extractLsb' 17 15 = 0#15
  lastCause : (s.view 5).extractLsb' 0 8 = s.lastCause
  logLength : (s.view 5).extractLsb' 8 24 = BitVec.ofNat 24 (min s.log.length 0xFFFFFF)
  maxAttempts : (s.view 6).extractLsb' 0 4 = BitVec.ofNat 4 s.params.maxAttempts
  checkRxCrc : (s.view 6).extractLsb' 4 1 = bit s.params.checkRxCrc
  posOor : (s.view 6).extractLsb' 5 2 = policyCode s.params.posOor
  rxExcess : (s.view 6).extractLsb' 7 1 = excessCode s.params.rxExcess
  sync : (s.view 6).extractLsb' 8 8 = Config.sync
  queueDepth : (s.view 6).extractLsb' 16 16 = queueDepthField s.params.queueDepth

theorem layout (s : State) : Layout s := by
  constructor
  all_goals
    simp only [State.view, State.busStatus, State.queueStatus, State.dispStatus, State.crcStatus, State.rxStatus,
      State.causeStatus, State.configStatus]
    repeat rw [BitVec.extractLsb'_append_eq_of_le (by decide)]
    try rw [BitVec.extractLsb'_append_eq_of_add_le (by decide)]
    exact BitVec.extractLsb'_eq_self

theorem bit_getElem_zero (b : Bool) : (bit b)[0] = b := by cases b <;> rfl

/-- A one-bit field is the bit at its place. -/
theorem getLsbD_of_field {w : U32} {i : Nat} {b : Bool} (h : w.extractLsb' i 1 = bit b) : w.getLsbD i = b := by
  have hBit := congrArg (·.getLsbD 0) h
  simpa [bit_getElem_zero] using hBit

/-- A field of `n` bits shows a number that fits it. -/
theorem toNat_of_field {w : U32} {i n k : Nat} (h : w.extractLsb' i n = BitVec.ofNat n k) (hk : k < 2 ^ n) :
    (w.extractLsb' i n).toNat = k := by
  rw [h, BitVec.toNat_ofNat, Nat.mod_eq_of_lt hk]

theorem queueEmpty_eq (s : State) : s.queueEmpty = decide (s.queue.length = 0) := by
  unfold State.queueEmpty
  cases s.queue <;> rfl

theorem queueFull_eq (s : State) : s.queueFull = decide (s.params.queueDepth = some s.queue.length) := by
  unfold State.queueFull
  cases s.params.queueDepth with
  | none => simp
  | some n => simp [eq_comm]

theorem rxBaseValid_iff (s : State) :
    s.rxBaseValid = true ↔ s.rxCount = s.rxb.length ∧ 1 ≤ s.rxb.length ∧ s.rxb[0]? = some 0x55#8 := by
  unfold State.rxBaseValid
  cases s.rxb <;> simp [Config.sync]

theorem queueDepthField_toNat (d : Option Nat) :
    (queueDepthField d).toNat = (match d with | some n => if n ≤ 0xFFFE then n else 0xFFFF | none => 0xFFFF) := by
  cases d with
  | none => rfl
  | some n =>
    simp only [queueDepthField]
    split
    · rw [BitVec.toNat_ofNat, Nat.mod_eq_of_lt (by omega)]
    · rfl

theorem curExpLen_toNat {s : State} (hs : Invariants s) :
    s.curExpLen.toNat = (s.cur.map (fun r => r.expLen)).getD 0 := by
  unfold State.curExpLen
  cases hc : s.cur with
  | none => rfl
  | some r =>
    obtain ⟨-, -, hLen⟩ := hs.curBounds r hc
    simp only [Option.map_some, Option.getD_some, BitVec.toNat_ofNat]
    omega

/-! ### The registers -/

/-- Settles O60: the layout of the registers, with the codes written out and the counts that fit their fields. -/
theorem statusFields : Obligations.StatusFields := by
  intro s hs
  have hl := layout s
  obtain ⟨-, hMax, -⟩ := hs.params
  refine ⟨⟨?busState, getLsbD_of_field hl.portOpen, getLsbD_of_field hl.lockHeld, getLsbD_of_field hl.disposed,
      hl.busReserved, ?reason, hl.busReservedHigh⟩,
    ⟨toNat_of_field hl.queueLength (by omega), (getLsbD_of_field hl.queueEmpty).trans (queueEmpty_eq s),
      (getLsbD_of_field hl.queueFull).trans (queueFull_eq s), hl.queueReserved⟩,
    ⟨?dstate, getLsbD_of_field hl.curValid, toNat_of_field hl.attempt ?attempt,
      (congrArg BitVec.toNat hl.curExpLen).trans (curExpLen_toNat hs), ?kind, hl.dispReserved⟩,
    ⟨hl.crcAcc, hl.crcReserved⟩,
    ⟨toNat_of_field hl.rxCount ?rxCount, toNat_of_field hl.rxLength ?rxLength, ?baseValid, hl.rxReserved⟩,
    ⟨hl.lastCause, toNat_of_field hl.logLength (by omega)⟩,
    ⟨toNat_of_field hl.maxAttempts (by omega), getLsbD_of_field hl.checkRxCrc, ?policy, ?excess, hl.sync,
      (congrArg BitVec.toNat hl.queueDepth).trans (queueDepthField_toNat _)⟩⟩
  case busState =>
    rw [hl.busState]
    cases s.busState <;> rfl
  case reason =>
    rw [hl.offlineReason]
    cases s.offlineReason <;> rfl
  case dstate =>
    rw [hl.dstate]
    cases s.dstate <;> rfl
  case attempt =>
    have hAttempt := hs.attemptBound
    omega
  case kind =>
    rw [hl.curKind, State.curKind]
    cases s.cur with
    | none => rfl
    | some r =>
      simp only [Option.map_some]
      cases kind r.payload <;> rfl
  case rxCount =>
    have hCount := hs.rxCountBound
    have hLen := hs.rxbBound
    omega
  case rxLength =>
    have hLen := hs.rxbBound
    omega
  case baseValid => rw [getLsbD_of_field hl.rxBaseValid, rxBaseValid_iff]
  case policy =>
    rw [hl.posOor]
    cases s.params.posOor <;> rfl
  case excess =>
    cases hx : s.params.rxExcess with
    | discard => exact getLsbD_of_field (b := false) (by rw [hl.rxExcess, hx]; rfl)
    | retain => exact getLsbD_of_field (b := true) (by rw [hl.rxExcess, hx]; rfl)

end Sys2Proof.Machine
end

-- The order of the requests in the history (O12) and the operations that agents hold (O2).
section
/-! ## Every step keeps the order of the requests

The new events of a step balance what it does to ENQ_SEQ, the queue and CUR: a request leaves the queue with its Deq event and
CUR with its Deliver event. `FifoInv.append` says once that such a step keeps the order; each effect and each final step is one
use of it, or of its special case `FifoInv.record` for events that name no request's place in the order. -/

namespace Sys2Proof.Machine

/-! ### The sequence numbers of the events -/

@[simp] theorem enqSeqs_append (h es : List Event) : enqSeqs (h ++ es) = enqSeqs h ++ enqSeqs es := List.filterMap_append

@[simp] theorem deqSeqs_append (h es : List Event) : deqSeqs (h ++ es) = deqSeqs h ++ deqSeqs es := List.filterMap_append

@[simp] theorem deliverSeqs_append (h es : List Event) : deliverSeqs (h ++ es) = deliverSeqs h ++ deliverSeqs es :=
  List.filterMap_append

/-- What the events `es` add to each of the three orders (R44). -/
structure Numbers (es : List Event) (enq deq deliver : List (Option Nat)) : Prop where
  enq : enqSeqs es = enq
  deq : deqSeqs es = deq
  deliver : deliverSeqs es = deliver

theorem Numbers.append {es fs : List Event} {a b c x y z : List (Option Nat)} (h : Numbers es a b c)
    (k : Numbers fs x y z) : Numbers (es ++ fs) (a ++ x) (b ++ y) (c ++ z) := by
  constructor <;> simp [h.enq, h.deq, h.deliver, k.enq, k.deq, k.deliver]

/-- What DECODE records is no part of the order (R200). -/
theorem decodeEvents_numbers (r : PendingRequest) (d : Decoded) : Numbers (decodeEvents r d) [] [] [] := by
  cases d <;> exact ⟨rfl, rfl, rfl⟩

theorem delivery_numbers (r : PendingRequest) (buf : List Byte) (count : Nat) (success : Bool) (d : Decoded) :
    Numbers (.deliver r.owner r.seq buf count success :: decodeEvents r d) [] [] [r.seq] :=
  .append (es := [_]) ⟨rfl, rfl, rfl⟩ (decodeEvents_numbers r d)

theorem drainEvents_cons {ps : Params} {r : PendingRequest} {rest : List PendingRequest} {es : List Event}
    (h : drainEvents ps (r :: rest) = .ok es) :
    ∃ d fs, drainEvents ps rest = .ok fs ∧
      es = .deq r.seq :: .deliver r.owner r.seq (zeros r.expLen) 0 false :: (decodeEvents r d ++ fs) := by
  unfold drainEvents at h
  split at h
  next d fs _ hfs =>
    cases h
    exact ⟨d, fs, hfs, rfl⟩
  · cases h
  · cases h

/-- D_STOP dequeues and delivers each queued request once, in the order of the queue (R231). -/
theorem drainEvents_numbers {ps : Params} {q : List PendingRequest} {es : List Event} (h : drainEvents ps q = .ok es) :
    Numbers es [] (q.map (·.seq)) (q.map (·.seq)) := by
  induction q generalizing es with
  | nil =>
    cases h
    exact ⟨rfl, rfl, rfl⟩
  | cons r rest ih =>
    obtain ⟨d, fs, hfs, rfl⟩ := drainEvents_cons h
    have hDeq : Numbers [.deq r.seq] [] [r.seq] [] := ⟨rfl, rfl, rfl⟩
    exact hDeq.append ((delivery_numbers r _ 0 false d).append (ih hfs))

/-! ### One rule for the order, and its cases -/

namespace FifoInv

variable {s t : State}

/-- A step keeps the order if its events balance ENQ_SEQ, the queue and CUR: what was there and came in is what went out and is
there (R73, R76). -/
theorem append (hf : FifoInv s) {es : List Event} {enq deq deliver : List (Option Nat)} (hHist : t.hist = s.hist ++ es)
    (hn : Numbers es enq deq deliver) (hSeq : (List.range t.enqSeq).map some = (List.range s.enqSeq).map some ++ enq)
    (hQueue : s.queue.map (·.seq) ++ enq = deq ++ t.queue.map (·.seq))
    (hCur : s.cur.toList.map (·.seq) ++ deq = deliver ++ t.cur.toList.map (·.seq)) : FifoInv t where
  accepted := by rw [hHist, enqSeqs_append, hn.enq, hf.accepted, hSeq]
  dequeued := by
    rw [hHist, enqSeqs_append, deqSeqs_append, hn.enq, hn.deq, hf.dequeued, List.append_assoc, hQueue, List.append_assoc]
  delivered := by
    rw [hHist, deqSeqs_append, deliverSeqs_append, hn.deq, hn.deliver, hf.delivered, List.append_assoc, hCur,
      List.append_assoc]

/-- Events that are no part of the order, with ENQ_SEQ, the queue and CUR as they were. -/
theorem record (hf : FifoInv s) {es : List Event} (hHist : t.hist = s.hist ++ es) (hn : Numbers es [] [] [])
    (hSeq : t.enqSeq = s.enqSeq) (hQueue : t.queue = s.queue) (hCur : t.cur = s.cur) : FifoInv t :=
  hf.append hHist hn (by simp [hSeq]) (by simp [hQueue]) (by simp [hCur])

theorem of_sameCore (hf : FifoInv s) (h : SameCore s t) : FifoInv t :=
  hf.record (es := []) (by simp [h.hist]) ⟨rfl, rfl, rfl⟩ h.enqSeq h.queue h.cur

theorem raise (hf : FifoInv s) (c : Cause) (q : Option Nat) (info : List Byte) : FifoInv (s.raise c q info) :=
  hf.record rfl ⟨rfl, rfl, rfl⟩ rfl rfl rfl

/-- An accepted request is numbered by ENQ_SEQ and joins the end of the queue (R220). -/
theorem enqueued (hf : FifoInv s) (r : PendingRequest) : FifoInv (s.enqueued r) :=
  hf.append (enq := [some s.enqSeq]) (deq := []) (deliver := []) rfl ⟨rfl, rfl, rfl⟩ (by simp [List.range_succ])
    (by simp [numbered]) (by simp)

/-- D_FETCH moves the head of the queue to an empty CUR (R224). -/
theorem fetched (hf : FifoInv s) {r : PendingRequest} {rest : List PendingRequest} (hc : s.cur = none)
    (hq : s.queue = r :: rest) :
    FifoInv { s with queue := rest, cur := some r, attempt := 0, dstate := .exch, hist := s.hist ++ [.deq r.seq] } :=
  hf.append (enq := []) (deq := [r.seq]) (deliver := []) rfl ⟨rfl, rfl, rfl⟩ (by simp) (by simp [hq]) (by simp [hc])

/-- Route-back delivers CUR and drops it (R229). -/
theorem routedBack (hf : FifoInv s) {r : PendingRequest} {es : List Event} (hc : s.cur = some r)
    (hn : Numbers es [] [] [r.seq]) :
    FifoInv { s with cur := none, attempt := 0, dstate := .idle, hist := s.hist ++ es } :=
  hf.append rfl hn (by simp) (by simp) (by simp [hc])

/-- D_STOP delivers the whole queue, with nothing in flight (R231). -/
theorem drained (hf : FifoInv s) {es : List Event} (hc : s.cur = none)
    (hn : Numbers es [] (s.queue.map (·.seq)) (s.queue.map (·.seq))) :
    FifoInv { s with queue := [], dstate := .stopped, portOpen := false, hist := s.hist ++ es } :=
  hf.append rfl hn (by simp) (by simp) (by simp [hc])

theorem exchangeOffline (hf : FifoInv s) (n : Nat) : FifoInv (s.exchangeOffline n) :=
  hf.record rfl ⟨rfl, rfl, rfl⟩ rfl rfl rfl

theorem exchangeAnswered (hf : FifoInv s) (n : Nat) (a : LineAnswer) : FifoInv (s.exchangeAnswered n a) := by
  rcases exchangeAnswered_cases s n a with ⟨buf, count, -, -, h⟩ | h
  · exact h ▸ hf.record rfl ⟨rfl, rfl, rfl⟩ rfl rfl rfl
  · exact h ▸ hf.record rfl ⟨rfl, rfl, rfl⟩ rfl rfl rfl

theorem attemptEnded (hf : FifoInv s) (r : PendingRequest) (o : ExchangeOutcome) : FifoInv (s.attemptEnded r o) := by
  rcases attemptEnded_cases s r o with h | ⟨-, -, h⟩ | ⟨c, h⟩
  · exact h ▸ { hf with }
  · exact h ▸ { hf with }
  · exact h ▸ { hf.raise c r.seq [] with }

/-- Only an accepted request, D_FETCH, route-back and D_STOP take part in the order; that D_FETCH and D_STOP find CUR empty is
what the invariants are for (R28). -/
theorem of_effect (hs : Invariants s) (h : Effect s t) (hf : FifoInv s) : FifoInv t := by
  cases h with
  | enqueued r => exact hf.enqueued r
  | sent r ws => exact { hf.enqueued r with }
  | fetched r rest hi hd hq => exact hf.fetched (hs.cur_eq_none (.inl hi)) hq
  | delivered r d hd hr => exact hf.routedBack hr (delivery_numbers r _ _ _ d)
  | stopped es hd hi hk he => exact hf.drained (hs.cur_eq_none hi) (drainEvents_numbers he)
  | attemptOffline r => exact (hf.exchangeOffline _).attemptEnded r _
  | raised c info => exact hf.raise c none info
  | abandoned => exact { hf.raise .commandFailure s.curSeq [] with }
  | disposed | connectBegun | attemptBegun => exact hf.record rfl ⟨rfl, rfl, rfl⟩ rfl rfl rfl
  | quiet | accumulated | disconnectBegun | slept | woke | retried => exact { hf with }

theorem of_ending (h : Ending s t) (hf : FifoInv s) : FifoInv t := by
  cases h with
  | opened | disconnected => exact hf.record rfl ⟨rfl, rfl, rfl⟩ rfl rfl rfl
  | failed y c =>
    exact hf.record (es := [.bus .offline y, .logged c.code none []]) (by simp) ⟨rfl, rfl, rfl⟩ rfl rfl rfl
  | exchanged n b a => exact hf.exchangeAnswered n a
  | attempted n b r a => exact (hf.exchangeAnswered n a).attemptEnded r _

end FifoInv

/-- Settles O12: each effect, in a state with the invariants, and each final step keeps the order (`FifoInv.of_effect`,
`FifoInv.of_ending`). -/
theorem stepKeepsFifoOrder : Obligations.StepKeepsFifoOrder := by
  intro s t hs hf h
  have hKeeps : FifoInv s → FifoInv t :=
    (step_moves h).lift_of_invariants (R := fun s t => FifoInv s → FifoInv t) (fun h k => k ∘ h)
      (fun h hf => hf.of_sameCore h) FifoInv.of_effect (fun _ => FifoInv.of_ending) hs
  exact hKeeps hf

end Sys2Proof.Machine
end

section
/-! ## Held operations

What a held operation does to the schedule (log 7): `releasedAfter` case by case, and `step_retry` puts it around the retried
instruction as `step_invoke` puts `heldAfter` around an invoked one. -/

namespace Sys2Proof.Machine

open Sys2Proof.Claim

theorem releasedAfter_of_enabled (k : Nat) {u : State} (h : u.result ≠ .notEnabled) :
    releasedAfter k (.next u) = .next { u with held := u.held.eraseIdx k } := by
  simp [releasedAfter, h]

theorem releasedAfter_of_notEnabled (k : Nat) {u : State} (h : u.result = .notEnabled) :
    releasedAfter k (.next u) = .next u := by
  simp [releasedAfter, h]

/-- Only producers are blocked (R308). -/
theorem ne_dispatcher_of_blocked {s : State} {earlier : List HeldOp} {a : Agent} (h : s.blocked earlier a = true) :
    a ≠ .dispatcher := by
  rintro rfl
  cases h

theorem invokeStep_of_blocked {a : Agent} {s : State} (h : s.blocked s.held a = true) (t : Transaction) :
    invokeStep a t s = .next { s with agent := a, result := .notEnabled, held := s.held ++ [⟨a, t⟩] } := by
  rw [invokeStep, if_pos h]
  exact heldAfter_of_notEnabled t rfl (ne_dispatcher_of_blocked h)

theorem retryHeld_of_not_blocked {s : State} {k : Nat} {a : Agent} {t : Transaction} (hk : s.held[k]? = some ⟨a, t⟩)
    (hb : s.blocked (s.held.take k) a = false) : retryHeld k s = releasedAfter k (runTransaction a t s) := by
  simp [retryHeld, hk, hb]

/-- The step that tries a held instruction again, of an agent with no earlier operation undone (R74, R221). -/
theorem step_retry {s : State} {k : Nat} {a : Agent} {t : Transaction} {i : Instr} {rest : List Input}
    (hin : s.inputs = .retry k :: rest) (hk : s.held[k]? = some ⟨a, t⟩) (hb : s.blocked (s.held.take k) a = false)
    (hd : decode t = .ok i) :
    step s = releasedAfter k (returnAfter i (exec i { s with inputs := rest, agent := a })) := by
  calc step s = retryHeld k { s with inputs := rest } := step_of_inputs hin
    _ = releasedAfter k (runTransaction a t { s with inputs := rest }) :=
        retryHeld_of_not_blocked (s := { s with inputs := rest }) hk hb
    _ = releasedAfter k (returnAfter i (exec i { s with inputs := rest, agent := a })) := by
        rw [runTransaction_of_decode hd]

/-- Settles O2: `invokeStep_of_blocked` for the operation that waits; `step_retry`, then the case of each wrapper, for the one
that is tried again. -/
theorem heldOperationsWaitAndRetry : Obligations.HeldOperationsWaitAndRetry := by
  refine ⟨fun s a t rest hin hb => ?_, fun s k a t i rest u hin hk hb hd hu => ?_⟩
  · rw [step_of_inputs hin]
    exact invokeStep_of_blocked (s := { s with inputs := rest }) hb t
  · rw [step_retry hin hk hb hd, hu]
    refine ⟨fun hen hw => ?done, fun hw => ?waits, fun hne => ?held⟩
    case done => rw [returnAfter_next_of_not_waits hw, releasedAfter_of_enabled k hen]
    case waits =>
      have hUnderWay : (returnsLater u).result ≠ .notEnabled := by simp [returnsLater]
      rw [returnAfter_next_of_waits hw, releasedAfter_of_enabled k hUnderWay]
      rfl
    case held => rw [returnAfter_next_of_notEnabled hne, releasedAfter_of_notEnabled k hne]

end Sys2Proof.Machine
end

section
/-! ## The two encoding spaces

What the decoder reads from a payload (30_encoding.md R34, R96, R98) and from an op number with its operands (R102, R104): the
encoder's transactions come back, and an op number with no row is named. The operand bytes are the model's own (log 3). -/

namespace Sys2Proof.Machine

open Sys2Proof.Claim

/-! ### The wire space -/

theorem decode_wire_of_generic {p : List Byte} (h : kind p = .generic) (n : Nat) (t : ChannelTag) :
    decode (.wire p n t) = .ok (.generic p n t) := by
  simp only [decode, decodeWire, h]

/-- A payload that has all the constant bytes of a row of R96 is the one of the row's command, whatever length and target its
caller gives; every other payload is GENERIC (R34). -/
theorem kind_eq_generic_or_command (p : List Byte) :
    kind p = .generic ∨ ∃ i m g, encode i = .wire p m g ∧ ∀ n t, decode (.wire p n t) = .ok i := by
  unfold kind
  split
  case h_1 y a0 a1 g c =>
    split
    next hSync =>
      subst hSync
      split_ifs with hOpen hClose hStop
      · obtain ⟨rfl, rfl⟩ := hOpen
        exact .inr ⟨.openCmd a0 a1, _, _, rfl, fun _ _ => rfl⟩
      · obtain ⟨rfl, rfl⟩ := hClose
        exact .inr ⟨.closeCmd a0 a1, _, _, rfl, fun _ _ => rfl⟩
      · obtain ⟨rfl, rfl⟩ := hStop
        exact .inr ⟨.stopCmd a0 a1, _, _, rfl, fun _ _ => rfl⟩
      · exact .inl rfl
    next => exact .inl rfl
  case h_2 y a0 a1 g c x =>
    split
    next hSync =>
      subst hSync
      split_ifs with hMove hQpos hQstate hQdir hHandshake
      · obtain ⟨rfl, rfl⟩ := hMove
        exact .inr ⟨.move a0 a1 x, _, _, rfl, fun _ _ => rfl⟩
      · obtain ⟨rfl, rfl, rfl⟩ := hQpos
        exact .inr ⟨.qpos a0 a1, _, _, rfl, fun _ _ => rfl⟩
      · obtain ⟨rfl, rfl, rfl⟩ := hQstate
        exact .inr ⟨.qstate a0 a1, _, _, rfl, fun _ _ => rfl⟩
      · obtain ⟨rfl, rfl, rfl⟩ := hQdir
        exact .inr ⟨.qdir a0 a1, _, _, rfl, fun _ _ => rfl⟩
      · obtain ⟨rfl, rfl, rfl⟩ := hHandshake
        exact .inr ⟨.handshake a0 a1, _, _, rfl, fun _ _ => rfl⟩
      · exact .inl rfl
    next => exact .inl rfl
  case h_3 y a0 a1 g c x d =>
    split
    next hSetdir =>
      obtain ⟨rfl, rfl, rfl, rfl⟩ := hSetdir
      exact .inr ⟨.setdir a0 a1 d, _, _, rfl, fun _ _ => rfl⟩
    next => exact .inl rfl
  case h_4 y b1 b2 g c x n0 n1 =>
    split
    next hRegister =>
      obtain ⟨rfl, rfl, rfl, rfl, rfl, rfl⟩ := hRegister
      exact .inr ⟨.register n0 n1, _, _, rfl, fun _ _ => rfl⟩
    next => exact .inl rfl
  case h_5 => exact .inl rfl

/-! ### The operation space -/

/-- One operand of `decodeOp`: once it is read, the rest of the arm goes on with what stands after it. -/
theorem read_then {α β : Type} {x : Except DecodeError (α × List Byte)} {a : α} {rest : List Byte}
    {f : α × List Byte → Except DecodeError β} {o : Except DecodeError β} (hx : x = .ok (a, rest))
    (hf : f (a, rest) = o) : x >>= f = o := by
  rw [hx]
  exact hf

/-- The operands of an operation are read back one after another, and what stands after them is left (R102; log 3). A case for
each list of operand types; operands of one byte are read by computation. -/
theorem decodeOp_operandBytes {i : Instr} (hi : encode i = .op (opNumber i :: operandBytes i)) (h : i.wellFormed = true)
    (rest : List Byte) : decodeOp (opNumber i :: (operandBytes i ++ rest)) = .ok (i, rest) := by
  cases i with
  | move | openCmd | closeCmd | stopCmd | setdir | qpos | qstate | qdir | handshake | register | generic => cases hi
  | crcInit | crcByte | crcRead | dispose | dFetch | dSleep | dWake | dAttempt | dRetry | dDeliver | dStop | connect => rfl
  | checksum bs | build bs | uartEncode bs => exact read_then (getBytes_putBytes h _) rfl
  | readStatus n => exact read_then (getNat_putNat h _) rfl
  | disconnect permanent => exact read_then (getBool_putBool permanent _) rfl
  | enqueue r => exact read_then (getRequest_putRequest h _) rfl
  | mkOpen o a0 a1 | mkClose o a0 a1 | mkStop o a0 a1 | mkQpos o a0 a1 | mkQstate o a0 a1 | mkQdir o a0 a1
  | mkHandshake o a0 a1 | mkRegister o a0 a1 | mkMove o a0 a1 x | mkSetdir o a0 a1 x =>
    simp only [opNumber, operandBytes, List.append_assoc]
    exact read_then (getSession_putSession h _) rfl
  | expLen p hint =>
    simp only [Instr.wellFormed, Bool.and_eq_true, opNumber, operandBytes, List.append_assoc] at h ⊢
    obtain ⟨hp, hHint⟩ := h
    exact read_then (getBytes_putBytes hp _) (read_then (getOptNat_putOptNat hHint _) rfl)
  | mkGeneric o p n t =>
    simp only [Instr.wellFormed, Bool.and_eq_true, opNumber, operandBytes, List.append_assoc] at h ⊢
    obtain ⟨⟨ho, hp⟩, hn⟩ := h
    exact read_then (getSession_putSession ho _)
      (read_then (getBytes_putBytes hp _) (read_then (getNat_putNat hn _) (read_then (getTag_putTag t _) rfl)))
  | send o p n t =>
    simp only [Instr.wellFormed, Bool.and_eq_true, opNumber, operandBytes, List.append_assoc] at h ⊢
    obtain ⟨⟨ho, hp⟩, hn⟩ := h
    exact read_then (getSession_putSession ho _)
      (read_then (getBytes_putBytes hp _) (read_then (getNat_putNat hn _) (read_then (getOptTag_putOptTag t _) rfl)))
  | vCrc buf n | exchange buf n =>
    simp only [Instr.wellFormed, Bool.and_eq_true, opNumber, operandBytes, List.append_assoc] at h ⊢
    obtain ⟨hb, hn⟩ := h
    exact read_then (getBytes_putBytes hb _) (read_then (getNat_putNat hn _) rfl)
  | vBase buf c n =>
    simp only [Instr.wellFormed, Bool.and_eq_true, opNumber, operandBytes, List.append_assoc] at h ⊢
    obtain ⟨⟨hb, hc⟩, hn⟩ := h
    exact read_then (getBytes_putBytes hb _) (read_then (getNat_putNat hc _) (read_then (getNat_putNat hn _) rfl))
  | vAddr r buf | vEcho r buf | vRegack r buf =>
    simp only [Instr.wellFormed, Bool.and_eq_true, opNumber, operandBytes, List.append_assoc] at h ⊢
    obtain ⟨hr, hb⟩ := h
    exact read_then (getRequest_putRequest hr _) (read_then (getBytes_putBytes hb _) rfl)
  | vSuccess r buf c | decPos r buf c | decState r buf c | decDir r buf c | decVersion r buf c | decRegack r buf c
  | decode r buf c =>
    simp only [Instr.wellFormed, Bool.and_eq_true, opNumber, operandBytes, List.append_assoc] at h ⊢
    obtain ⟨⟨hr, hb⟩, hc⟩ := h
    exact read_then (getRequest_putRequest hr _)
      (read_then (getBytes_putBytes hb _) (read_then (getNat_putNat hc _) rfl))

theorem decode_op_of_ok {bytes rest : List Byte} {i : Instr} (h : decodeOp bytes = .ok (i, rest)) :
    decode (.op bytes) = .ok i := by
  simp only [decode, h]

theorem decode_op_of_error {bytes : List Byte} {e : DecodeError} (h : decodeOp bytes = .error e) :
    decode (.op bytes) = .error e := by
  simp only [decode, h]

theorem decode_encode_of_op {i : Instr} (hi : encode i = .op (opNumber i :: operandBytes i)) (h : i.wellFormed = true) :
    decode (encode i) = .ok i := by
  have hRead := decodeOp_operandBytes hi h []
  rw [List.append_nil] at hRead
  rw [hi, decode_op_of_ok hRead]

/-- The numbers R104 lists are the ones with no arm in the decoder. -/
theorem decode_op_of_unassigned {op : Byte} (h : Unassigned op) (operands : List Byte) :
    decode (.op (op :: operands)) = .error (.unassignedOp op) := by
  refine decode_op_of_error ?_
  unfold Unassigned at h
  rw [decodeOp]
  split
  case h_45 => rfl
  all_goals omega

/-! ### Both spaces -/

theorem kind_of_genericOk {p : List Byte} (h : genericOk p = true) : kind p = .generic := by
  simp only [genericOk, Bool.and_eq_true, decide_eq_true_eq] at h
  exact h.left

theorem decode_encode {i : Instr} (h : i.wellFormed = true) : decode (encode i) = .ok i := by
  cases i with
  | move | openCmd | closeCmd | stopCmd | setdir | qpos | qstate | qdir | handshake | register => rfl
  | generic p n t => exact decode_wire_of_generic (kind_of_genericOk h) n t
  | _ => exact decode_encode_of_op rfl h

/-- Settles O4: `decode_encode`, and for a payload the two cases of `kind_eq_generic_or_command`. -/
theorem decodeEncodeEveryInstr : Obligations.DecodeEncodeEveryInstr := by
  refine ⟨fun i h => decode_encode h, fun p n t => ?_⟩
  rcases kind_eq_generic_or_command p with hk | ⟨i, m, g, hEncode, hDecode⟩
  · exact ⟨.generic p n t, n, t, decode_wire_of_generic hk n t, rfl, fun _ => rfl⟩
  · refine ⟨i, m, g, hDecode n t, hEncode, fun hk => ?_⟩
    exact Except.ok.inj ((hDecode n t).symm.trans (decode_wire_of_generic hk n t))

/-- Settles O3: seven of the words are what `encode` gives for their instruction, and 0x00 is unassigned. -/
theorem sampleWordsDecode : Obligations.SampleWordsDecode :=
  ⟨decode_encode (i := .move 0x01#8 0x02#8 0x37#8) rfl, decode_encode (i := .setdir 0x01#8 0x02#8 0x01#8) rfl,
    decode_encode (i := .register 0x01#8 0x02#8) rfl, decode_encode (i := .handshake 0x01#8 0x02#8) rfl,
    decode_encode (i := .crcByte 0x55#8) rfl, decode_encode (i := .dSleep) rfl, decode_encode (i := .connect) rfl,
    decode_op_of_unassigned (.inl rfl) []⟩

end Sys2Proof.Machine
end

section
/-! ## Refusals with BAD_OPCODE

The first check of every operation is its agent's permission (R104, R307), and an op number with no row is refused before any
operation is chosen. -/

namespace Sys2Proof.Machine

open Sys2Proof.Claim

theorem exec_eq_guarded (i : Instr) (s : State) : ∃ k, exec i s = guarded i s k := by
  cases i with
  | _ => exact ⟨_, rfl⟩

theorem guarded_of_not_permitted {i : Instr} {s : State} (h : permitted i s.agent = false) (k : Step) :
    guarded i s k = .next (refusedWith s .badOpcode 13#8 [opNumber i]) :=
  if_neg (Bool.eq_false_iff.1 h)

theorem runTransaction_of_unassigned {t : Transaction} {op : Byte} (h : decode t = .error (.unassignedOp op)) (a : Agent)
    (s : State) : runTransaction a t s = .next (refusedWith { s with agent := a } .badOpcode 13#8 [op]) := by
  simp only [runTransaction, h]
  rfl

theorem step_of_invoke {s : State} {a : Agent} {t : Transaction} {rest : List Input} (hin : s.inputs = .invoke a t :: rest)
    (hb : s.blocked s.held a = false) : step s = heldAfter a t (runTransaction a t { s with inputs := rest }) :=
  (step_of_inputs hin).trans (invokeStep_of_not_blocked (s := { s with inputs := rest }) hb t)

/-- The step that takes the invocation of a number with no row, by an agent that is not blocked (R104). -/
theorem step_invoke_of_unassigned {s : State} {a : Agent} {t : Transaction} {op : Byte} {rest : List Input}
    (hin : s.inputs = .invoke a t :: rest) (hb : s.blocked s.held a = false) (hd : decode t = .error (.unassignedOp op)) :
    step s = .next (refusedWith { s with inputs := rest, agent := a } .badOpcode 13#8 [op]) := by
  rw [step_of_invoke hin hb, runTransaction_of_unassigned hd]
  exact heldAfter_of_enabled a t (by simp [refusedWith])

/-- Settles O5: the decoder names an unassigned number, and the permission of every instruction is checked first. -/
theorem unassignedOrForbiddenOpRefused : Obligations.UnassignedOrForbiddenOpRefused := by
  refine ⟨fun s a op operands rest hin hb hu => ?_, fun i s hp => ?_⟩
  · exact step_invoke_of_unassigned hin hb (decode_op_of_unassigned hu operands)
  · obtain ⟨k, hk⟩ := exec_eq_guarded i s
    rw [hk, guarded_of_not_permitted hp]

end Sys2Proof.Machine
end

section
/-! ## The wire commands of a session

ISSUE.<KIND> (R106, R237; log 6): what ENQUEUE does with a request of lengths it accepts (R220), an equation per case, and that
every wire command of a producer comes to it. -/

namespace Sys2Proof.Machine

open Sys2Proof.Claim

theorem queueFull_eq_true_iff (s : State) : s.queueFull = true ↔ Full s := by
  rw [queueFull_eq, decide_eq_true_iff, Full]

theorem queueFull_eq_false_iff (s : State) : s.queueFull = false ↔ Room s := by
  rw [queueFull_eq, decide_eq_false_iff_not]
  exact ⟨fun h n hn hLength => h (hLength ▸ hn), fun h hFull => h _ hFull rfl⟩

theorem badLengths_of_lengthsOk {r : PendingRequest} (h : LengthsOk r) : badLengths r.payload r.expLen = false :=
  (badLengths_eq_false_iff r).2 h

theorem enqueueRequest_of_disposed {s : State} (hd : s.disposed = true) (r : PendingRequest) :
    enqueueRequest r s = .next (refusedWith s .disposed 12#8 r.payload) :=
  if_pos hd

theorem enqueueRequest_of_full {s : State} {r : PendingRequest} (hd : s.disposed = false) (hl : LengthsOk r) (hf : Full s) :
    enqueueRequest r s = .next (waiting s) := by
  simp only [enqueueRequest, hd, badLengths_of_lengthsOk hl, (queueFull_eq_true_iff s).2 hf]
  rfl

theorem enqueueRequest_of_room {s : State} {r : PendingRequest} (hd : s.disposed = false) (hl : LengthsOk r) (hr : Room s) :
    enqueueRequest r s = .next { accepted s r with result := .ok (.seq s.enqSeq) } := by
  simp only [enqueueRequest, hd, badLengths_of_lengthsOk hl, (queueFull_eq_false_iff s).2 hr]
  rfl

theorem permitted_of_producer {i : Instr} {s : State} {q : SessionId} (hi : invokedBy i = .producer)
    (hs : s.agent = .producer q) : permitted i s.agent = true := by
  rw [permitted, hi, hs]
  rfl

/-- A command whose meaning is the constructor's request of the calling session, given to ENQUEUE (R106). -/
theorem issuesRequest_of_exec {i : Instr} {r : SessionId → PendingRequest} (hi : invokedBy i = .producer)
    (hl : ∀ q, LengthsOk (r q)) (hx : ∀ s, exec i s = guarded i s (enqueueRequest (r (sessionOf s.agent)) s)) :
    IssuesRequest i r := by
  intro s q hs
  have hExec : exec i s = enqueueRequest (r q) s := by
    rw [hx, guarded_of_permitted (permitted_of_producer hi hs), hs, sessionOf]
  rw [hExec]
  exact ⟨fun hd => enqueueRequest_of_disposed hd (r q), fun hd hf => enqueueRequest_of_full hd (hl q) hf,
    fun hd hr => enqueueRequest_of_room hd (hl q) hr⟩

/-- Such a command whose constructor refuses some operands (R154, R158, R164), with operands it accepts. -/
theorem issuesRequest_of_check {i : Instr} {r : SessionId → PendingRequest} {c : Prop} [Decidable c] {info : List Byte}
    (hc : ¬ c) (hi : invokedBy i = .producer) (hl : ∀ q, LengthsOk (r q))
    (hx : ∀ s, exec i s =
      guarded i s (if c then refuse .badArgument info s else enqueueRequest (r (sessionOf s.agent)) s)) :
    IssuesRequest i r :=
  issuesRequest_of_exec hi hl fun s => by rw [hx, if_neg hc]

/-- Operands that it refuses are refused before anything is enqueued. -/
theorem guarded_check_refused {i : Instr} {s : State} {q : SessionId} {c : Prop} [Decidable c] (hc : c)
    (hi : invokedBy i = .producer) (hs : s.agent = .producer q) (info : List Byte) (k : Step) :
    guarded i s (if c then refuse .badArgument info s else k) = .next (refusedWith s .badArgument 11#8 info) := by
  rw [guarded_of_permitted (permitted_of_producer hi hs), if_pos hc]
  rfl

/-- MK_GENERIC accepts a payload of no row with the lengths ENQUEUE accepts (R164). -/
theorem badGeneric_of_generic {p : List Byte} {n : Nat} (hk : kind p = .generic) (hl : badLengths p n = false) :
    badGeneric p n = false := by
  simp [badGeneric, hk, hl]

theorem lengthsOk_request {p : List Byte} {n : Nat} (hp : p.length ≤ 253) (h1 : 1 ≤ n) (hn : n ≤ 255) (t : ChannelTag)
    (q : SessionId) : LengthsOk (request q p n t) :=
  ⟨hp, h1, hn⟩

/-- Settles O30: the meaning of each command is its request given to ENQUEUE, for MOVE, SETDIR and GENERIC after the check of
its constructor. -/
theorem wireCommandsEnqueue : Obligations.WireCommandsEnqueue := by
  refine ⟨fun a0 a1 => ?plain, fun a0 a1 x => ⟨fun hx => ?move, fun hx => ?setdir, fun s q hs => ⟨fun hx => ?over100,
    fun hx => ?over1⟩⟩, fun p n t hk hp h1 hn => ?generic⟩
  case plain =>
    refine ⟨?_, ?_, ?_, ?_, ?_, ?_, ?_, ?_⟩
    all_goals exact issuesRequest_of_exec rfl (lengthsOk_request (by simp) (by simp) (by simp) _) fun s => rfl
  case move =>
    exact issuesRequest_of_check (Nat.not_lt.2 hx) rfl (lengthsOk_request (by simp) (by simp) (by simp) _) fun s => rfl
  case setdir =>
    exact issuesRequest_of_check (Nat.not_lt.2 hx) rfl (lengthsOk_request (by simp) (by simp) (by simp) _) fun s => rfl
  case over100 => exact guarded_check_refused hx rfl hs [x] _
  case over1 => exact guarded_check_refused hx rfl hs [x] _
  case generic =>
    have hLengths := lengthsOk_request hp h1 hn t
    have hAccepted := badGeneric_of_generic hk (badLengths_of_lengthsOk (hLengths ⟨[]⟩))
    exact issuesRequest_of_check (ne_true_of_eq_false hAccepted) rfl hLengths fun s => rfl

end Sys2Proof.Machine
end

-- The CRC functions and their operations (O17 to O23).
section
/-! ## The CRC functions

What R130 to R133 give for a sequence of bytes and R138, R139 say of it, from the linearity of a shift step (Laws/Crc.lean). -/

namespace Sys2Proof.Machine

open Sys2Proof.Claim

/-! ### Byte sequences -/

theorem crc16_append (p q : List Byte) : crc16 (p ++ q) = q.foldl crcByte (crc16 p) := List.foldl_append

/-- Two byte sequences folded into the difference of two accumulators. -/
theorem foldl_crcByte_xor {xs ys : List Byte} (h : xs.length = ys.length) (a b : U16) :
    (List.zipWith (· ^^^ ·) xs ys).foldl crcByte (a ^^^ b) = xs.foldl crcByte a ^^^ ys.foldl crcByte b := by
  induction xs generalizing ys a b with
  | nil =>
    obtain rfl := List.length_eq_zero_iff.1 h.symm
    rfl
  | cons x xs ih =>
    obtain ⟨y, ys, rfl⟩ := List.exists_cons_of_length_eq_add_one h.symm
    simp only [List.zipWith_cons_cons, List.foldl_cons, crcByte_xor]
    exact ih (Nat.succ.inj h) _ _

/-- An accumulator folded with its own trailer is used up: each byte shifts out its own half. -/
theorem foldl_crcByte_crcBytes (c : U16) : (crcBytes c).foldl crcByte c = 0x0000#16 := by
  have hHigh : c.extractLsb' 8 8 = (c >>> 8).extractLsb' 0 8 := by
    ext k hk
    simp
  have hEmpty : c >>> 8 >>> 8 = 0x0000#16 := by
    rw [← BitVec.shiftRight_add, BitVec.ushiftRight_eq_zero (Nat.le_refl 16)]
  calc (crcBytes c).foldl crcByte c
      = crcByte (crcByte c (c.extractLsb' 0 8)) (c.extractLsb' 8 8) := rfl
    _ = crcByte (c >>> 8) ((c >>> 8).extractLsb' 0 8) := by rw [crcByte_own_low, hHigh]
    _ = 0x0000#16 := by rw [crcByte_own_low, hEmpty]

/-! ### One byte -/

theorem xor_low_byte (c : U16) (b : Byte) : c.extractLsb' 0 8 ^^^ (c ^^^ b.setWidth 16).setWidth 8 = b := by
  ext k hk
  simp

/-- Settles O21: a byte is the accumulator's low byte, which only shifts, and a difference, which starts from zero. -/
theorem crcTableForm : Obligations.CrcTableForm := fun c b => by
  generalize hi : (c ^^^ b.setWidth 16).setWidth 8 = i
  calc crcByte c b
      = crcByte (c ^^^ 0x0000#16) (c.extractLsb' 0 8 ^^^ i) := by rw [BitVec.xor_zero, ← hi, xor_low_byte]
    _ = (c >>> 8) ^^^ crcByte 0x0000#16 i := by rw [crcByte_xor, crcByte_own_low]

/-- The word a shift step takes to `v`: the bit shifted out is the high bit of `v`, the polynomial having it set. -/
def crcUnbit (v : U16) : U16 := ((v ^^^ if v.msb then Config.crcPoly else 0#16).setWidth 15).concat v.msb

theorem concat_ushiftRight_one {x : U16} (hx : x.msb = false) (b : Bool) : (x.setWidth 15).concat b >>> 1 = x := by
  have hLow : x.toNat < 2 ^ 15 := BitVec.toNat_lt_of_msb_false hx
  have hBit := b.toNat_lt
  apply BitVec.eq_of_toNat_eq
  rw [BitVec.toNat_ushiftRight, BitVec.toNat_concat, BitVec.toNat_setWidth, Nat.mod_eq_of_lt hLow, Nat.shiftRight_one]
  omega

theorem crcBit_crcUnbit (v : U16) : crcBit (crcUnbit v) = v := by
  have hTop : (v ^^^ if v.msb then Config.crcPoly else 0#16).msb = false := by
    rw [BitVec.msb_xor]
    cases v.msb <;> rfl
  rw [crcBit_eq, crcUnbit, concat_ushiftRight_one hTop, BitVec.getLsbD_concat_zero, BitVec.xor_assoc, BitVec.xor_self,
    BitVec.xor_zero]

theorem crcBit_surjective : Function.Surjective crcBit := fun v => ⟨crcUnbit v, crcBit_crcUnbit v⟩

theorem iterate_surjective {α : Type} {f : α → α} (hf : Function.Surjective f) (n : Nat) :
    Function.Surjective (iterate f n) := by
  induction n with
  | zero => exact Function.surjective_id
  | succ n ih => exact ih.comp hf

theorem crcByte_zero_byte (c : U16) : crcByte c 0x00#8 = iterate crcBit 8 c := by
  rw [crcByte_low, BitVec.setWidth_zero, BitVec.xor_zero]

/-- Settles O17: but for the fold of one more byte and the check value, the definitions as they stand. -/
theorem crcFunctionsAsDefined : Obligations.CrcFunctionsAsDefined :=
  ⟨fun _ => rfl, fun _ _ => rfl, rfl, fun bs b => crc16_append bs [b], by decide +kernel, fun _ => rfl⟩

end Sys2Proof.Machine
end

section
/-! ## The operations of the Checksum Codec

CRC_INIT, CRC_BYTE and CRC_READ are the host's and CHECKSUM any agent's (R102, R134 to R137): an equation for each. -/

namespace Sys2Proof.Machine

open Sys2Proof.Claim

theorem permitted_of_any {i : Instr} (hi : invokedBy i = .any) (a : Agent) : permitted i a = true := by
  rw [permitted, hi]
  rfl

theorem permitted_iff_of_host {i : Instr} (hi : invokedBy i = .host) (a : Agent) : permitted i a = true ↔ a = .host := by
  rw [permitted, hi]
  cases a <;> simp [AgentClass.admits]

section

variable {s : State}

theorem guarded_of_host {i : Instr} (hi : invokedBy i = .host) (hs : s.agent = .host) (k : Step) : guarded i s k = k :=
  guarded_of_permitted ((permitted_iff_of_host hi _).2 hs) k

theorem guarded_of_not_host {i : Instr} (hi : invokedBy i = .host) (hs : s.agent ≠ .host) (k : Step) :
    guarded i s k = .next (refusedWith s .badOpcode 13#8 [opNumber i]) :=
  guarded_of_not_permitted (Bool.eq_false_iff.2 (hs ∘ (permitted_iff_of_host hi _).1)) k

theorem exec_crcInit_of_host (hs : s.agent = .host) :
    exec .crcInit s = .next { s with crcAcc := 0xFFFF#16, result := .ok .unit } :=
  guarded_of_host rfl hs _

theorem exec_crcByte_of_host (hs : s.agent = .host) (b : Byte) :
    exec (.crcByte b) s = .next { s with crcAcc := crcByte s.crcAcc b, result := .ok .unit } :=
  guarded_of_host rfl hs _

theorem exec_crcRead_of_host (hs : s.agent = .host) : exec .crcRead s = .next (answered s (.word s.crcAcc)) :=
  guarded_of_host rfl hs _

end

theorem exec_checksum (bs : List Byte) (s : State) :
    exec (.checksum bs) s = if 255 < bs.length then refuse .badArgument bs s else reply (.word (crc16 bs)) s :=
  guarded_of_permitted (i := .checksum bs) (s := s) (permitted_of_any rfl _) _

theorem exec_checksum_of_le {bs : List Byte} (h : bs.length ≤ 255) (s : State) :
    exec (.checksum bs) s = .next (answered s (.word (crc16 bs))) :=
  (exec_checksum bs s).trans (if_neg (Nat.not_lt.2 h))

theorem exec_checksum_of_lt {bs : List Byte} (h : 255 < bs.length) (s : State) :
    exec (.checksum bs) s = .next (refusedWith s .badArgument 11#8 bs) :=
  (exec_checksum bs s).trans (if_pos h)

theorem execAll_cons_of_next {i : Instr} {t : State} (h : exec i s = .next t) (is : List Instr) :
    execAll (i :: is) s = execAll is t := by
  simp only [execAll, h]

/-- The bytes folded from whatever CRC_ACC holds, and the result read. -/
theorem execAll_crcBytes_crcRead (s : State) (hs : s.agent = .host) (bs : List Byte) :
    execAll (bs.map Instr.crcByte ++ [.crcRead]) s =
      .next { s with crcAcc := bs.foldl crcByte s.crcAcc, result := .ok (.word (bs.foldl crcByte s.crcAcc)) } := by
  induction bs generalizing s with
  | nil => exact execAll_cons_of_next (exec_crcRead_of_host hs) []
  | cons b bs ih => exact (execAll_cons_of_next (exec_crcByte_of_host hs b) _).trans (ih _ hs)

/-- Settles O23: CRC_INIT starts the fold of `execAll_crcBytes_crcRead` where CRC-16 starts. -/
theorem incrementalCrcIsChecksum : Obligations.IncrementalCrcIsChecksum := fun s bs hs =>
  (execAll_cons_of_next (exec_crcInit_of_host hs) _).trans
    (execAll_crcBytes_crcRead { s with crcAcc := 0xFFFF#16, result := .ok .unit } hs bs)

/-- Settles O22: the trailer uses up the accumulator it is of, and the two starts of a difference cancel. -/
theorem crcResidueAndDifference : Obligations.CrcResidueAndDifference := by
  refine ⟨rfl, fun p => ?residue, fun xs ys h => ?difference, fun s t bs h => ?independent⟩
  case residue => rw [crc16_append, foldl_crcByte_crcBytes]
  case difference => rw [crc16, crc16, ← foldl_crcByte_xor h, BitVec.xor_self]
  case independent => exact ⟨exec_checksum_of_le h s, exec_checksum_of_le h t⟩

/-- Settles O19: a shift step reaches every value, so eight of them do, and a zero byte is eight shift steps only. -/
theorem crcByteFoldsOneByte : Obligations.CrcByteFoldsOneByte := by
  refine ⟨fun s b hs => exec_crcByte_of_host hs b, fun _ => rfl, by decide, by decide, by decide, by decide, fun v => ?_⟩
  obtain ⟨c, hc⟩ := iterate_surjective crcBit_surjective 8 v
  exact ⟨c, 0x00#8, (crcByte_zero_byte c).trans hc⟩

/-- Settles O18: the host's equations, and for every other agent the check of permission. -/
theorem crcInitAndRead : Obligations.CrcInitAndRead := fun _ =>
  ⟨rfl, rfl, fun hs => ⟨exec_crcInit_of_host hs, exec_crcRead_of_host hs⟩,
    fun hs => ⟨guarded_of_not_host rfl hs _, guarded_of_not_host rfl hs _⟩, exec_crcRead_of_host rfl⟩

/-- Settles O20: the two sides of the bound, and the empty sequence below it. -/
theorem checksumReturnsCrc16 : Obligations.ChecksumReturnsCrc16 := fun s _ =>
  ⟨rfl, fun h => exec_checksum_of_le h s, fun h => exec_checksum_of_lt h s, exec_checksum_of_le (Nat.zero_le _) s⟩

end Sys2Proof.Machine
end

-- The frame builder (O24 to O29).
section
/-! ## Frames and expected lengths

BUILD and EXP_LEN (42_frame_builder.md R150 to R152), which any agent may invoke (R102): what frameOf and expLenOf say of a
payload, and an equation for each operation. -/

namespace Sys2Proof.Machine

open Sys2Proof.Claim

section

variable {s : State} {p : List Byte}

theorem guarded_of_any {i : Instr} (hi : invokedBy i = .any) (k : Step) : guarded i s k = k :=
  guarded_of_permitted (permitted_of_any hi _) k

/-! ### BUILD -/

theorem payloadTooLong_iff : payloadTooLong p = true ↔ 253 < p.length := decide_eq_true_iff

theorem length_frameOf (p : List Byte) : (frameOf p).length = p.length + 2 := List.length_append

theorem take_frameOf (p : List Byte) : (frameOf p).take p.length = p := List.take_left

theorem exec_build (p : List Byte) (s : State) :
    exec (.build p) s = if payloadTooLong p then refuse .badArgument p s else reply (.bytes (frameOf p)) s :=
  guarded_of_any (i := .build p) (s := s) rfl _

theorem exec_build_of_le (h : p.length ≤ 253) (s : State) :
    exec (.build p) s = .next (answered s (.bytes (frameOf p))) :=
  (exec_build p s).trans (if_neg (payloadTooLong_iff.not.2 (Nat.not_lt.2 h)))

theorem exec_build_of_lt (h : 253 < p.length) (s : State) :
    exec (.build p) s = .next (refusedWith s .badArgument 11#8 p) :=
  (exec_build p s).trans (if_pos (payloadTooLong_iff.2 h))

/-! ### EXP_LEN -/

theorem exec_expLen (p : List Byte) (hint : Option Nat) (s : State) :
    exec (.expLen p hint) s = .next (answered s (.nat (expLenOf p hint))) :=
  guarded_of_any (i := .expLen p hint) (s := s) rfl _

theorem expLenOf_of_generic (h : kind p = .generic) (hint : Option Nat) : expLenOf p hint = hint.getD (p.length + 2) := by
  simp only [expLenOf, h]
  cases hint with
  | none => rfl
  | some n => rfl

/-- A row fixes its payload's length (R34), and but for REGISTER its answer is as long as the frame. The cases are those of
`kind`: the length first, then the constant bytes. -/
theorem expLenOf_eq_length_add_two (hr : kind p ≠ .register) (hg : kind p ≠ .generic) (hint : Option Nat) :
    expLenOf p hint = p.length + 2 := by
  revert hr hg
  unfold expLenOf kind
  split
  case h_5 => simp
  all_goals split_ifs <;> simp

end

/-- Settles O25: the table row by row, and the lengths of the addressed rows. -/
theorem expectedLengthTable : Obligations.ExpectedLengthTable := by
  refine fun s p hint => ⟨rfl, ?table, fun hr hg => ?addressed⟩
  case table =>
    rw [exec_expLen]
    cases hk : kind p with
    | generic => rw [expLenOf_of_generic hk]
    | _ => simp only [expLenOf, hk]
  case addressed => rw [exec_expLen, expLenOf_eq_length_add_two hr hg]

/-- Settles O24: the two sides of the bound, and the empty payload below it. -/
theorem buildAppendsCrc : Obligations.BuildAppendsCrc := fun s p =>
  ⟨rfl, fun h => ⟨frameOf p, exec_build_of_le h s, rfl, length_frameOf p, take_frameOf p⟩, fun h => exec_build_of_lt h s,
    exec_build_of_le (Nat.zero_le _) s⟩

end Sys2Proof.Machine
end

section
/-! ## The constructors of requests

MK_MOVE to MK_GENERIC (42_frame_builder.md R153 to R164), a producer's (R102): each answers its request and changes nothing,
some after a check of their operands. -/

namespace Sys2Proof.Machine

open Sys2Proof.Claim

section

variable {i : Instr} {s : State} {q : SessionId}

theorem guarded_of_producer (hi : invokedBy i = .producer) (hs : s.agent = .producer q) (k : Step) : guarded i s k = k :=
  guarded_of_permitted (permitted_of_producer hi hs) k

/-- Operands that a check lets pass are answered. -/
theorem guarded_check_answered {c : Prop} [Decidable c] (hc : ¬ c) (hi : invokedBy i = .producer)
    (hs : s.agent = .producer q) (info : List Byte) (v : Reply) :
    guarded i s (if c then refuse .badArgument info s else reply v s) = .next (answered s v) := by
  rw [guarded_of_producer hi hs, if_neg hc]
  rfl

/-- A constructor without a range: its meaning is the answer of its request. -/
theorem exec_of_constructor {r : PendingRequest} (hi : invokedBy i = .producer) (hs : s.agent = .producer q)
    (hx : exec i s = guarded i s (reply (.request r) s)) : exec i s = .next (answered s (.request r)) :=
  hx.trans (guarded_of_producer hi hs _)

theorem exec_mkMove_of_le {x : Byte} (hx : x.toNat ≤ 100) (hs : s.agent = .producer q) (o : SessionId) (a0 a1 : Byte) :
    exec (.mkMove o a0 a1 x) s = .next (answered s (.request (moveRequest o a0 a1 x))) :=
  guarded_check_answered (i := .mkMove o a0 a1 x) (Nat.not_lt.2 hx) rfl hs [x] _

theorem exec_mkMove_of_lt {x : Byte} (hx : 100 < x.toNat) (hs : s.agent = .producer q) (o : SessionId) (a0 a1 : Byte) :
    exec (.mkMove o a0 a1 x) s = .next (refusedWith s .badArgument 11#8 [x]) :=
  guarded_check_refused (i := .mkMove o a0 a1 x) hx rfl hs [x] _

theorem exec_mkSetdir_of_le {x : Byte} (hx : x.toNat ≤ 1) (hs : s.agent = .producer q) (o : SessionId) (a0 a1 : Byte) :
    exec (.mkSetdir o a0 a1 x) s = .next (answered s (.request (setdirRequest o a0 a1 x))) :=
  guarded_check_answered (i := .mkSetdir o a0 a1 x) (Nat.not_lt.2 hx) rfl hs [x] _

theorem exec_mkSetdir_of_lt {x : Byte} (hx : 1 < x.toNat) (hs : s.agent = .producer q) (o : SessionId) (a0 a1 : Byte) :
    exec (.mkSetdir o a0 a1 x) s = .next (refusedWith s .badArgument 11#8 [x]) :=
  guarded_check_refused (i := .mkSetdir o a0 a1 x) hx rfl hs [x] _

/-! ### The kind of what a constructor makes -/

/-- Every request `i` answers is of kind `k`, with the table's length (R167). -/
def MakesKind (s : State) (i : Instr) (k : Kind) : Prop :=
  ∀ t r, exec i s = .next t → t.result = .ok (.request r) → kind r.payload = k ∧ r.expLen = expLenOf r.payload none

/-- The common form of R153 carries the table's length. -/
theorem makesKind_of_answered {o : SessionId} {p : List Byte} {tag : ChannelTag} {k : Kind}
    (h : exec i s = .next (answered s (.request (requestOf o p tag)))) (hk : kind p = k) : MakesKind s i k := by
  intro t r ht hr
  obtain rfl : answered s (.request (requestOf o p tag)) = t := Host.Outcome.next.inj (h.symm.trans ht)
  obtain rfl : requestOf o p tag = r := Reply.request.inj (OpResult.ok.inj hr)
  exact ⟨hk, rfl⟩

theorem makesKind_of_refused {c : Cause} {code : Byte} {info : List Byte}
    (h : exec i s = .next (refusedWith s c code info)) (k : Kind) : MakesKind s i k := by
  intro t r ht hr
  obtain rfl : refusedWith s c code info = t := Host.Outcome.next.inj (h.symm.trans ht)
  nomatch hr

theorem mkMove_makesKind (hs : s.agent = .producer q) (o : SessionId) (a0 a1 x : Byte) :
    MakesKind s (.mkMove o a0 a1 x) .move := by
  obtain hx | hx := Nat.lt_or_ge 100 x.toNat
  · exact makesKind_of_refused (exec_mkMove_of_lt hx hs o a0 a1) _
  · exact makesKind_of_answered (exec_mkMove_of_le hx hs o a0 a1) rfl

theorem mkSetdir_makesKind (hs : s.agent = .producer q) (o : SessionId) (a0 a1 x : Byte) :
    MakesKind s (.mkSetdir o a0 a1 x) .setdir := by
  obtain hx | hx := Nat.lt_or_ge 1 x.toNat
  · exact makesKind_of_refused (exec_mkSetdir_of_lt hx hs o a0 a1) _
  · exact makesKind_of_answered (exec_mkSetdir_of_le hx hs o a0 a1) rfl

/-! ### The checks of MK_GENERIC -/

theorem badGeneric_iff (p : List Byte) (n : Nat) :
    badGeneric p n = true ↔ (253 < p.length ∨ n = 0 ∨ 255 < n) ∨ (kind p ≠ .generic ∧ n ≠ expLenOf p none) := by
  simp only [badGeneric, badLengths, Bool.or_eq_true, Bool.and_eq_true, decide_eq_true_iff, payloadTooLong_iff, or_assoc]
  rfl

end

/-- Settles O26: the two sides of each bound. -/
theorem checkedConstructors : Obligations.CheckedConstructors := fun _ _ o a0 a1 _ hs =>
  ⟨rfl, rfl, fun hx => exec_mkMove_of_le hx hs o a0 a1, fun hx => exec_mkMove_of_lt hx hs o a0 a1,
    fun hx => exec_mkSetdir_of_le hx hs o a0 a1, fun hx => exec_mkSetdir_of_lt hx hs o a0 a1⟩

/-- Settles O27: with the agent permitted, each meaning is the answer of its row's request. -/
theorem plainConstructors : Obligations.PlainConstructors := by
  intro s q o a0 a1 hs
  simp only [List.forall_mem_cons]
  refine ⟨?_, ?_, ?_, ?_, ?_, ?_, ?_, ?_, nofun⟩
  all_goals exact ⟨rfl, exec_of_constructor rfl hs rfl⟩

/-- Settles O28: each answers the common form of R153 with a payload that has its row's constant bytes. -/
theorem constructorsMakeTheirKind : Obligations.ConstructorsMakeTheirKind := by
  intro s q o a0 a1 x hs
  simp only [List.forall_mem_cons]
  refine ⟨mkMove_makesKind hs o a0 a1 x, ?_, ?_, ?_, mkSetdir_makesKind hs o a0 a1 x, ?_, ?_, ?_, ?_, ?_, nofun⟩
  all_goals exact makesKind_of_answered (exec_of_constructor rfl hs rfl) rfl

/-- Settles O29: the operands refused are those of `badGeneric_iff`. -/
theorem genericConstructor : Obligations.GenericConstructor := by
  intro s q o p n t hs
  refine ⟨rfl, fun h => ?lengths, fun h => ?row, fun hp h1 hn hRow => ?accepted⟩
  case lengths => exact guarded_check_refused ((badGeneric_iff p n).2 (.inl h)) rfl hs p _
  case row => exact guarded_check_refused ((badGeneric_iff p n).2 (.inr h)) rfl hs p _
  case accepted =>
    have hGood : ¬ badGeneric p n = true := by
      rw [badGeneric_iff]
      rintro (hLengths | ⟨hKind, hLen⟩)
      · omega
      · exact hLen (hRow hKind)
    exact guarded_check_answered hGood rfl hs p _

end Sys2Proof.Machine
end

-- The frame parser (O45 to O52).
section
/-! ## The validators

What R180 to R184 and R196 ask of an answer, for each validator as the condition of Sys2Proof.Claim; and of the trailer check
(R181), that it compares the last two bytes with the CRC of the bytes before them. -/

namespace Sys2Proof.Machine

open Sys2Proof.Claim

/-! ### The classes of kinds -/

theorem isEchoKind_iff (k : Kind) : isEchoKind k = true ↔ EchoKind k := by
  cases k <;> simp [isEchoKind, EchoKind]

theorem isAddressedKind_iff (k : Kind) : isAddressedKind k = true ↔ k ≠ .register ∧ k ≠ .generic := by
  cases k <;> simp [isAddressedKind]

/-- The four classes that R196 and R200 tell apart (R34). -/
theorem kind_classes (k : Kind) : QueryKind k ∨ EchoKind k ∨ k = .register ∨ k = .generic := by
  cases k <;> simp [QueryKind, EchoKind]

theorem not_echoKind_of_queryKind {k : Kind} (h : QueryKind k) : ¬ EchoKind k := by
  rcases h with rfl | rfl | rfl | rfl <;> simp [EchoKind]

theorem ne_register_of_queryKind {k : Kind} (h : QueryKind k) : k ≠ .register := by
  rcases h with rfl | rfl | rfl | rfl <;> simp

theorem ne_register_of_echoKind {k : Kind} (h : EchoKind k) : k ≠ .register := by
  rcases h with rfl | rfl | rfl | rfl | rfl <;> simp

theorem ne_generic_of_echoKind {k : Kind} (h : EchoKind k) : k ≠ .generic := by
  rcases h with rfl | rfl | rfl | rfl | rfl <;> simp

/-- The payload of an echo kind holds the whole address (R34). -/
theorem five_le_length_of_echoKind {p : List Byte} (h : EchoKind (kind p)) : 5 ≤ p.length := by
  have hLength := expLenOf_eq_length_add_two (ne_register_of_echoKind h) (ne_generic_of_echoKind h) none
  have hTable : 7 ≤ expLenOf p none := by
    rcases h with h | h | h | h | h <;> simp [expLenOf, h]
  omega

/-- REGISTER has a row of eight bytes (R34). -/
theorem length_of_register {p : List Byte} : kind p = .register → p.length = 8 := by
  unfold kind
  split
  case h_4 => simp
  case h_5 => simp
  all_goals split_ifs <;> simp

/-! ### Each validator is its condition -/

section

variable {ps : Params} {r : PendingRequest} {buf : List Byte} {count n : Nat}

theorem vCrc_iff : vCrc buf count = true ↔ TrailerOk buf count := by
  simp [vCrc, TrailerOk, and_assoc]

theorem vCrc_eq_false_iff : vCrc buf count = false ↔ ¬ TrailerOk buf count := by
  rw [← Bool.not_eq_true, vCrc_iff]

theorem vBase_iff : vBase ps buf count n = true ↔ BaseValid ps buf count n := by
  have hCrc : (!ps.checkRxCrc || vCrc buf count) = true ↔ (ps.checkRxCrc = true → TrailerOk buf count) := by
    cases ps.checkRxCrc <;> simp [vCrc_iff]
  simp only [vBase, BaseValid, Whole, Bool.and_eq_true, hCrc, decide_eq_true_iff, List.head?_eq_getElem?, and_assoc]
  rfl

theorem vAddr_iff : vAddr r buf = true ↔ AddressOk r buf := by
  unfold vAddr AddressOk
  split
  next h =>
    obtain ⟨hr, hg⟩ := (isAddressedKind_iff _).1 h
    simp [hr, hg, and_assoc]
  next h =>
    rw [isAddressedKind_iff] at h
    exact iff_of_true rfl fun hr hg => absurd ⟨hr, hg⟩ h

theorem vEcho_iff : vEcho r buf = true ↔ EchoOk r buf := by
  unfold vEcho EchoOk
  split
  next h => simp [(isEchoKind_iff _).1 h]
  next h => exact iff_of_true rfl fun he => absurd ((isEchoKind_iff _).2 he) h

theorem vRegack_iff : vRegack r buf = true ↔ RegisterOk r buf := by
  unfold vRegack RegisterOk
  split
  next h => simp [h, and_assoc]
  next h => exact iff_of_true rfl fun hr => absurd hr h

theorem vSuccess_iff : vSuccess ps r buf count = true ↔ Success ps r buf count := by
  simp only [vSuccess, Success, Bool.and_eq_true, vBase_iff, vAddr_iff, vEcho_iff, vRegack_iff, and_assoc]

/-! ### What each class of kinds makes of the conditions -/

theorem addressOk_of_register (h : kind r.payload = .register) (buf : List Byte) : AddressOk r buf :=
  fun hr => absurd h hr

theorem addressOk_of_generic (h : kind r.payload = .generic) (buf : List Byte) : AddressOk r buf :=
  fun _ hg => absurd h hg

theorem echoOk_of_not_echoKind (h : ¬ EchoKind (kind r.payload)) (buf : List Byte) : EchoOk r buf :=
  fun he => absurd he h

theorem registerOk_of_ne_register (h : kind r.payload ≠ .register) (buf : List Byte) : RegisterOk r buf :=
  fun hr => absurd hr h

/-- An echo repeats the address with the rest of the payload (R183). -/
theorem addressOk_of_echoOk (hk : EchoKind (kind r.payload)) (h : EchoOk r buf) : AddressOk r buf := by
  obtain ⟨hLength, hTake⟩ := h hk
  have hFive := five_le_length_of_echoKind hk
  have hByte : ∀ i, i < r.payload.length → buf[i]? = r.payload[i]? := fun i hi => by
    rw [← List.getElem?_take_of_lt hi, hTake]
  exact fun _ _ => ⟨by omega, hByte 1 (by omega), hByte 2 (by omega)⟩

end

/-! ### The validators as operations -/

/-- Any agent may invoke a validator, and it answers its Boolean. -/
theorem answersWhether_of_iff {i : Instr} {s : State} {b : Bool} {p : Prop} (hi : invokedBy i = .any)
    (hx : exec i s = guarded i s (reply (.bool b) s)) (h : b = true ↔ p) : AnswersWhether i s p :=
  ⟨b, hx.trans (guarded_of_any hi _), h⟩

/-- Settles O45: each validator answers the Boolean of its condition. -/
theorem validatorsAnswer : Obligations.ValidatorsAnswer := fun _ _ _ _ _ =>
  ⟨rfl, rfl, rfl, rfl, rfl, rfl, answersWhether_of_iff rfl rfl vBase_iff, answersWhether_of_iff rfl rfl vCrc_iff,
    answersWhether_of_iff rfl rfl vAddr_iff, answersWhether_of_iff rfl rfl vEcho_iff,
    answersWhether_of_iff rfl rfl vRegack_iff, answersWhether_of_iff rfl rfl vSuccess_iff⟩

/-- Settles O47: of the four conditions of success, a class of kinds leaves those that are not true of all its answers. -/
theorem successByClass : Obligations.SuccessByClass := by
  intro ps r buf count
  rw [vSuccess_iff, vEcho_iff, vAddr_iff, Success]
  refine ⟨addressOk_of_echoOk, fun h => ?query, fun h => ?echo, fun h => ?register, fun h => ?generic⟩
  case query =>
    have hEcho := echoOk_of_not_echoKind (not_echoKind_of_queryKind h) buf
    have hRegister := registerOk_of_ne_register (ne_register_of_queryKind h) buf
    simp only [hEcho, hRegister, and_true]
  case echo =>
    have hRegister := registerOk_of_ne_register (ne_register_of_echoKind h) buf
    simp only [hRegister, and_true, and_iff_right_of_imp (addressOk_of_echoOk (buf := buf) h)]
  case register =>
    have hEcho := echoOk_of_not_echoKind (r := r) (by simp [h, EchoKind]) buf
    simp only [addressOk_of_register h buf, hEcho, true_and]
  case generic =>
    have hEcho := echoOk_of_not_echoKind (r := r) (by simp [h, EchoKind]) buf
    have hRegister := registerOk_of_ne_register (r := r) (by simp [h]) buf
    simp only [addressOk_of_generic h buf, hEcho, hRegister, and_true]

/-! ### The trailer check -/

theorem crcBit_injective : Function.Injective crcBit := Finite.injective_iff_surjective.2 crcBit_surjective

theorem crcByte_injective (b : Byte) : Function.Injective (crcByte · b) := by
  have hIterate : Function.Injective (iterate crcBit 8) :=
    Finite.injective_iff_surjective.2 (iterate_surjective crcBit_surjective 8)
  exact fun _ _ h => (BitVec.xor_left_inj _).1 (hIterate h)

/-- Two accumulators that the same bytes lead to one value were one. -/
theorem foldl_crcByte_injective (bs : List Byte) : Function.Injective (bs.foldl crcByte) := by
  induction bs with
  | nil => exact Function.injective_id
  | cons b bs ih => exact ih.comp (crcByte_injective b)

/-- A CRC's two bytes after the low one first (R133). -/
theorem crcBytes_of_bytes (lo hi : Byte) : crcBytes (lo.setWidth 16 ||| (hi.setWidth 16 <<< 8)) = [lo, hi] := by
  have hLow : (lo.setWidth 16 ||| (hi.setWidth 16 <<< 8)).extractLsb' 0 8 = lo := by
    ext k hk
    have hLow16 : k < 16 := by omega
    simp [hk, hLow16]
  have hHigh : (lo.setWidth 16 ||| (hi.setWidth 16 <<< 8)).extractLsb' 8 8 = hi := by
    ext k hk
    have hHigh16 : 8 + k < 16 := by omega
    simp [hHigh16, BitVec.getLsbD_eq_getElem hk]
  rw [crcBytes, hLow, hHigh]

/-- The residue is zero just when the last two bytes are the CRC of the others: that CRC's own trailer uses it up, and no other
accumulator ends at zero with it. -/
theorem crc16_append_crcBytes_eq_zero_iff (body : List Byte) (c : U16) :
    crc16 (body ++ crcBytes c) = 0x0000#16 ↔ crc16 body = c := by
  rw [crc16_append, ← foldl_crcByte_crcBytes c, (foldl_crcByte_injective (crcBytes c)).eq_iff]

theorem exec_vCrc (buf : List Byte) (count : Nat) (s : State) :
    exec (.vCrc buf count) s = .next (answered s (.bool (vCrc buf count))) :=
  guarded_of_any (i := .vCrc buf count) (s := s) rfl _

/-- Settles O46: the residue of the whole buffer, split at its last two bytes. -/
theorem trailerCheckComparesLastBytes : Obligations.TrailerCheckComparesLastBytes := by
  intro s body lo hi hBody
  have hTrailer : vCrc (body ++ [lo, hi]) (body.length + 2) =
      decide (crc16 body = lo.setWidth 16 ||| (hi.setWidth 16 <<< 8)) := by
    rw [Bool.eq_iff_iff, vCrc_iff, decide_eq_true_iff, ← crc16_append_crcBytes_eq_zero_iff, crcBytes_of_bytes, TrailerOk]
    simp [hBody]
  rw [exec_vCrc, hTrailer]

end Sys2Proof.Machine
end

section
/-! ## The decoders

What R185 to R191 and R200 find in an answer: the first check that fails, and else what the rule makes of the value bytes. Each
decoder gets one lemma, from which its operation, DECODE and D_DELIVER take what they record. -/

namespace Sys2Proof.Machine

open Sys2Proof.Claim

section

variable {ps : Params} {r : PendingRequest} {buf : List Byte} {count n : Nat}

/-! ### The checks -/

theorem baseReason_eq_none_iff : baseReason ps buf count n = none ↔ BaseValid ps buf count n := by
  simp only [baseReason, List.head?_eq_getElem?]
  split_ifs with hWhole hSync hCrc
  · exact iff_of_false nofun fun ⟨_, hFirst, _⟩ => hSync hFirst
  · exact iff_of_false nofun fun ⟨_, _, hOk⟩ => vCrc_eq_false_iff.1 hCrc.2 (hOk hCrc.1)
  · exact iff_of_true rfl ⟨hWhole, not_not.1 hSync, fun h => not_not.1 fun hBad => hCrc ⟨h, vCrc_eq_false_iff.2 hBad⟩⟩
  · exact iff_of_false nofun fun ⟨h, _⟩ => hWhole h

theorem baseDiscard_of_baseReason {x : DiscardReason} (h : baseReason ps buf count n = some x) :
    BaseDiscard ps buf count n x := by
  simp only [baseReason, List.head?_eq_getElem?] at h
  split_ifs at h with hWhole hSync hCrc
  · exact .inr (.inl ⟨hWhole, hSync, (Option.some.inj h).symm⟩)
  · exact .inr (.inr ⟨hWhole, not_not.1 hSync, hCrc.1, vCrc_eq_false_iff.1 hCrc.2, (Option.some.inj h).symm⟩)
  · exact .inl ⟨hWhole, (Option.some.inj h).symm⟩

theorem addressedReason_eq_none_iff :
    addressedReason ps r buf count = none ↔ BaseValid ps buf count r.expLen ∧ AddressOk r buf := by
  unfold addressedReason
  rw [← baseReason_eq_none_iff, ← vAddr_iff]
  split
  next x hx => simp [hx]
  next hx => simp [hx]

/-- The base reason in its order, then ADDR_MISMATCH (R191). -/
theorem discard_of_addressedReason {x : DiscardReason} (h : addressedReason ps r buf count = some x) :
    BaseDiscard ps buf count r.expLen x ∨
      BaseValid ps buf count r.expLen ∧ ¬ AddressOk r buf ∧ x = .addrMismatch := by
  unfold addressedReason at h
  split at h
  next y hy =>
    cases h
    exact .inl (baseDiscard_of_baseReason hy)
  next hBase =>
    split at h
    · cases h
    next hAddr =>
      exact .inr ⟨baseReason_eq_none_iff.1 hBase, hAddr ∘ vAddr_iff.2, (Option.some.inj h).symm⟩

/-! ### The value bytes -/

theorem positionValue_spec (ps : Params) (v : Byte) : PositionValue ps v (positionValue ps v) := by
  unfold positionValue
  split_ifs with hUnset hRange
  · exact .inl ⟨hUnset, rfl⟩
  · exact .inr (.inl ⟨hRange, rfl⟩)
  · have hOver : 100 < v.toNat ∧ v.toNat ≤ 254 := by bv_omega
    cases hPolicy : ps.posOor <;> simp [PositionValue, hUnset, hRange, hOver, hPolicy]

theorem motionValue_spec (v : Byte) : MotionValue v (motionValue v) := by
  unfold motionValue
  split_ifs with h0 h1 h2 h3
  · exact .inl ⟨h0, rfl⟩
  · exact .inr (.inl ⟨h1, rfl⟩)
  · exact .inr (.inr (.inl ⟨h2, rfl⟩))
  · exact .inr (.inr (.inr (.inl ⟨h3, rfl⟩)))
  · exact .inr (.inr (.inr (.inr ⟨by bv_omega, rfl⟩)))

theorem directionValue_spec (v : Byte) : DirectionValue v (directionValue v) := by
  unfold directionValue
  split_ifs with h0 h1
  · exact .inl ⟨h0, rfl⟩
  · exact .inr (.inl ⟨h1, rfl⟩)
  · exact .inr (.inr ⟨by bv_omega, rfl⟩)

theorem memRead_of_some {i : Nat} {b : Byte} (h : buf[i]? = some b) : memRead buf i = .ok b := by
  simp only [memRead, h]

theorem memRead_of_none {i : Nat} (h : buf[i]? = none) : memRead buf i = .error .bufferRange := by
  simp only [memRead, h]

/-! ### Each decoder -/

theorem valueAnswer_of_readsOutside (h : ReadsOutside ps r buf count) (value : Byte → Decoded) :
    valueAnswer ps r buf count value = .error .bufferRange := by
  obtain ⟨-, hBase, hAddr, hShort⟩ := h
  simp only [valueAnswer, addressedReason_eq_none_iff.2 ⟨hBase, hAddr⟩, memRead_of_none (List.getElem?_eq_none hShort)]

theorem valueAnswer_of_not_readsOutside {value : Byte → Decoded} {P : Byte → Decoded → Prop} (hv : ∀ v, P v (value v))
    (hk : QueryKind (kind r.payload)) (h : ¬ ReadsOutside ps r buf count) :
    ∃ d, ValueAnswer ps r buf count P d ∧ valueAnswer ps r buf count value = .ok d := by
  cases hReason : addressedReason ps r buf count with
  | some x =>
    refine ⟨.discard x, ?_, by simp only [valueAnswer, hReason]⟩
    rcases discard_of_addressedReason hReason with hBase | ⟨hBase, hAddr, rfl⟩
    · exact .inl ⟨x, hBase, rfl⟩
    · exact .inr (.inl ⟨hBase, hAddr, rfl⟩)
  | none =>
    obtain ⟨hBase, hAddr⟩ := addressedReason_eq_none_iff.1 hReason
    have hLong : 5 < buf.length := Nat.not_le.1 fun hShort => h ⟨hk, hBase, hAddr, hShort⟩
    have hRead : buf[5]? = some buf[5] := List.getElem?_eq_getElem hLong
    refine ⟨value buf[5], .inr (.inr ⟨hBase, hAddr, _, hRead, hv _⟩), ?_⟩
    simp only [valueAnswer, hReason, memRead_of_some hRead]

theorem decRegack_spec (hk : kind r.payload = .register) :
    ∃ d, RegisterAnswer ps r buf count d ∧ decRegack ps r buf count = .ok d := by
  cases hReason : baseReason ps buf count r.expLen with
  | some x =>
    exact ⟨.discard x, .inl ⟨x, baseDiscard_of_baseReason hReason, rfl⟩, by simp only [decRegack, hReason]⟩
  | none =>
    have hBase := baseReason_eq_none_iff.1 hReason
    by_cases hAck : vRegack r buf = true
    · have hLength := length_of_register hk
      have h6 : r.payload[6]? = some r.payload[6] := List.getElem?_eq_getElem (by omega)
      have h7 : r.payload[7]? = some r.payload[7] := List.getElem?_eq_getElem (by omega)
      refine ⟨_, .inr (.inr ⟨hBase, vRegack_iff.1 hAck, _, _, h6, h7, rfl⟩), ?_⟩
      simp only [decRegack, hReason, if_pos hAck, memRead_of_some h6, memRead_of_some h7]
    · exact ⟨_, .inr (.inl ⟨hBase, hAck ∘ vRegack_iff.2, rfl⟩), by simp only [decRegack, hReason, if_neg hAck]⟩

theorem echoAnswer_spec (hk : EchoKind (kind r.payload)) : EchoAnswer ps r buf count (echoAnswer ps r buf count) := by
  unfold echoAnswer
  cases hReason : addressedReason ps r buf count with
  | some x =>
    rcases discard_of_addressedReason hReason with hBase | ⟨hBase, hAddr, rfl⟩
    · exact .inl ⟨x, hBase, rfl⟩
    · exact .inr (.inl ⟨hBase, hAddr, rfl⟩)
  | none =>
    obtain ⟨hBase, hAddr⟩ := addressedReason_eq_none_iff.1 hReason
    by_cases hEcho : vEcho r buf = true
    · have hRegister := registerOk_of_ne_register (ne_register_of_echoKind hk) buf
      rw [if_pos hEcho]
      exact .inr (.inr (.inr ⟨⟨hBase, hAddr, vEcho_iff.1 hEcho, hRegister⟩, rfl⟩))
    · rw [if_neg hEcho]
      exact .inr (.inr (.inl ⟨hBase, hAddr, hEcho ∘ vEcho_iff.2, rfl⟩))

/-! ### The decoder of the request's kind -/

/-- Of a query answer DECODE finds what its rule makes of byte 5 (R185 to R188). -/
theorem decodeAnswer_of_queryKind (hk : QueryKind (kind r.payload)) :
    ∃ (value : Byte → Decoded) (P : Byte → Decoded → Prop), (∀ v, P v (value v)) ∧ ∀ buf count,
      decodeAnswer ps r buf count = valueAnswer ps r buf count value ∧
      ∀ d, AnswerOf ps r buf count d ↔ ValueAnswer ps r buf count P d := by
  unfold decodeAnswer AnswerOf
  rcases hk with hk | hk | hk | hk <;> rw [hk]
  · exact ⟨_, _, positionValue_spec ps, fun _ _ => ⟨rfl, fun _ => .rfl⟩⟩
  · exact ⟨_, _, motionValue_spec, fun _ _ => ⟨rfl, fun _ => .rfl⟩⟩
  · exact ⟨_, _, directionValue_spec, fun _ _ => ⟨rfl, fun _ => .rfl⟩⟩
  · exact ⟨versionValue, VersionValue, fun _ => rfl, fun _ _ => ⟨rfl, fun _ => .rfl⟩⟩

theorem decodeAnswer_of_echoKind (hk : EchoKind (kind r.payload)) :
    decodeAnswer ps r buf count = .ok (echoAnswer ps r buf count) := by
  rcases hk with hk | hk | hk | hk | hk <;> simp only [decodeAnswer, hk]

theorem decodeAnswer_of_register (hk : kind r.payload = .register) :
    decodeAnswer ps r buf count = decRegack ps r buf count := by
  simp only [decodeAnswer, hk]

theorem decodeAnswer_of_generic (hk : kind r.payload = .generic) : decodeAnswer ps r buf count = .ok .noEvent := by
  simp only [decodeAnswer, hk]

theorem answerOf_of_echoKind_iff (hk : EchoKind (kind r.payload)) (d : Decoded) :
    AnswerOf ps r buf count d ↔ EchoAnswer ps r buf count d := by
  rcases hk with hk | hk | hk | hk | hk <;> simp only [AnswerOf, hk]

theorem answerOf_of_register_iff (hk : kind r.payload = .register) (d : Decoded) :
    AnswerOf ps r buf count d ↔ RegisterAnswer ps r buf count d := by
  simp only [AnswerOf, hk]

theorem answerOf_of_generic_iff (hk : kind r.payload = .generic) (d : Decoded) :
    AnswerOf ps r buf count d ↔ d = .noEvent := by
  simp only [AnswerOf, hk]

theorem decodeAnswer_of_readsOutside (h : ReadsOutside ps r buf count) :
    decodeAnswer ps r buf count = .error .bufferRange := by
  obtain ⟨value, P, -, hDecode⟩ := decodeAnswer_of_queryKind (ps := ps) h.1
  rw [(hDecode buf count).1, valueAnswer_of_readsOutside h]

theorem decodeAnswer_of_not_readsOutside (h : ¬ ReadsOutside ps r buf count) :
    ∃ d, AnswerOf ps r buf count d ∧ decodeAnswer ps r buf count = .ok d := by
  rcases kind_classes (kind r.payload) with hk | hk | hk | hk
  · obtain ⟨value, P, hv, hDecode⟩ := decodeAnswer_of_queryKind (ps := ps) hk
    obtain ⟨hEq, hAnswer⟩ := hDecode buf count
    simp only [hEq, hAnswer]
    exact valueAnswer_of_not_readsOutside hv hk h
  · exact ⟨_, (answerOf_of_echoKind_iff hk _).2 (echoAnswer_spec hk), decodeAnswer_of_echoKind hk⟩
  · simp only [decodeAnswer_of_register hk, answerOf_of_register_iff hk]
    exact decRegack_spec hk
  · exact ⟨_, (answerOf_of_generic_iff hk _).2 rfl, decodeAnswer_of_generic hk⟩

theorem answerOf_of_decodeAnswer {d : Decoded} (h : decodeAnswer ps r buf count = .ok d) : AnswerOf ps r buf count d := by
  by_cases hOutside : ReadsOutside ps r buf count
  · cases h.symm.trans (decodeAnswer_of_readsOutside hOutside)
  · obtain ⟨e, hAnswer, he⟩ := decodeAnswer_of_not_readsOutside hOutside
    cases h.symm.trans he
    exact hAnswer

/-! ### The decoders as operations -/

theorem decoderFor_of_ne {k : Kind} (hk : kind r.payload ≠ k) (d : Except Fault Decoded) (s : State) :
    decoderFor k r d s = .next (refusedWith s .badArgument 11#8 r.payload) :=
  if_neg hk

theorem decoderFor_of_error {k : Kind} (hk : kind r.payload = k) (f : Fault) (s : State) :
    decoderFor k r (.error f) s = .fault f :=
  if_pos hk

theorem decoderFor_of_ok {k : Kind} (hk : kind r.payload = k) (d : Decoded) (s : State) :
    decoderFor k r (.ok d) s = .next (answered s (.decoded d)) :=
  if_pos hk

end

/-- A decoder of query answers, for its kind and the rule of its value byte. -/
theorem decoderAnswers_of_exec {i : PendingRequest → List Byte → Nat → Instr} {k : Kind}
    {value : Params → Byte → Decoded} {P : Params → Byte → Decoded → Prop} (hk : QueryKind k)
    (hi : ∀ r buf count, invokedBy (i r buf count) = .any)
    (hx : ∀ s r buf count, exec (i r buf count) s =
      guarded (i r buf count) s (decoderFor k r (valueAnswer s.params r buf count (value s.params)) s))
    (hv : ∀ ps v, P ps v (value ps v)) : DecoderAnswers i k P := by
  intro s r buf count
  rw [hx, guarded_of_any (hi r buf count)]
  refine ⟨fun hne => ⟨_, decoderFor_of_ne hne _ s⟩, fun hr h => ?outside, fun hr h => ?inside⟩
  case outside => rw [valueAnswer_of_readsOutside h, decoderFor_of_error hr]
  case inside =>
    obtain ⟨d, hd, hAnswer⟩ := valueAnswer_of_not_readsOutside (hv s.params) (hr ▸ hk) h
    exact ⟨d, hd, by rw [hAnswer, decoderFor_of_ok hr]⟩

/-- Settles O48: one lemma for the four decoders, and each rule's table of byte 5. -/
theorem queryDecodersAnswer : Obligations.QueryDecodersAnswer :=
  ⟨fun _ _ _ => ⟨rfl, rfl, rfl, rfl⟩,
    decoderAnswers_of_exec (value := positionValue) (by simp [QueryKind]) (fun _ _ _ => rfl) (fun _ _ _ _ => rfl)
      positionValue_spec,
    decoderAnswers_of_exec (value := fun _ => motionValue) (by simp [QueryKind]) (fun _ _ _ => rfl) (fun _ _ _ _ => rfl)
      fun _ => motionValue_spec,
    decoderAnswers_of_exec (value := fun _ => directionValue) (by simp [QueryKind]) (fun _ _ _ => rfl)
      (fun _ _ _ _ => rfl) fun _ => directionValue_spec,
    decoderAnswers_of_exec (value := fun _ => versionValue) (by simp [QueryKind]) (fun _ _ _ => rfl) (fun _ _ _ _ => rfl)
      fun _ _ => rfl⟩

theorem exec_decRegack (r : PendingRequest) (buf : List Byte) (count : Nat) (s : State) :
    exec (.decRegack r buf count) s = decoderFor .register r (decRegack s.params r buf count) s :=
  guarded_of_any (i := .decRegack r buf count) (s := s) rfl _

/-- Settles O49: `decRegack_spec`, no read of a registration payload being outside of it. -/
theorem registrationDecoder : Obligations.RegistrationDecoder := by
  intro s r buf count
  rw [exec_decRegack]
  refine ⟨rfl, fun hne => ⟨_, decoderFor_of_ne hne _ s⟩, fun hk => ?_⟩
  obtain ⟨d, hd, hAnswer⟩ := decRegack_spec (ps := s.params) (buf := buf) (count := count) hk
  exact ⟨d, hd, by rw [hAnswer, decoderFor_of_ok hk]⟩

end Sys2Proof.Machine
end

section
/-! ## Route-back

DECODE and D_DELIVER take the same step (R200, R229; log 18): what it records, to whom, and which bytes of the response that
depends on. -/

namespace Sys2Proof.Machine

open Sys2Proof.Claim

section

variable {i : Instr} {s : State} {r : PendingRequest} {buf : List Byte} {count : Nat}

/-! ### The step -/

theorem guarded_of_dispatcher (hi : invokedBy i = .dispatcher) (hs : s.agent = .dispatcher) (k : Step) :
    guarded i s k = k := by
  refine guarded_of_permitted ?_ k
  rw [permitted, hi, hs]
  rfl

theorem decodeEvents_eq (r : PendingRequest) (d : Decoded) : decodeEvents r d = eventsOf r d := by
  cases d <;> rfl

theorem routeBack_of_ok {d : Decoded} (h : decodeAnswer s.params r s.rxb s.rxCount = .ok d) (v : Decoded → Reply) :
    routeBack r v s = .next
      { s with
        cur := none
        attempt := 0
        dstate := .idle
        hist := s.hist ++
          (.deliver r.owner r.seq s.rxb s.rxCount (vSuccess s.params r s.rxb s.rxCount) :: eventsOf r d)
        result := .ok (v d) } := by
  simp only [routeBack, h, decodeEvents_eq]
  rfl

theorem routeBack_of_error {f : Fault} (h : decodeAnswer s.params r s.rxb s.rxCount = .error f) (v : Decoded → Reply) :
    routeBack r v s = .fault f := by
  simp only [routeBack, h]

theorem exec_decode_of_atRouteBack (hs : s.agent = .dispatcher) (h : AtRouteBack s r buf count) :
    exec (.decode r buf count) s = routeBack r .decoded s :=
  (guarded_of_dispatcher (i := .decode r buf count) rfl hs _).trans (if_pos h)

theorem exec_decode_of_not_atRouteBack (hs : s.agent = .dispatcher) (h : ¬ AtRouteBack s r buf count) :
    exec (.decode r buf count) s = .next (waiting s) :=
  (guarded_of_dispatcher (i := .decode r buf count) rfl hs _).trans (if_neg h)

theorem exec_decode_routingBack (s : State) (r : PendingRequest) (buf : List Byte) (count : Nat) :
    exec (.decode r buf count) (routingBack s r buf count) = routeBack r .decoded (routingBack s r buf count) :=
  exec_decode_of_atRouteBack rfl ⟨rfl, rfl, rfl, rfl⟩

end

/-- Settles O50: DECODE at route-back is `routeBack`, and it records what `decodeAnswer` finds. -/
theorem decodeRecordsItsEvent : Obligations.DecodeRecordsItsEvent := by
  intro s r buf count hs
  refine ⟨rfl, fun hAt h => ?inside, fun hAt h => ?outside, exec_decode_of_not_atRouteBack hs⟩
  all_goals
    rw [exec_decode_of_atRouteBack hs hAt]
    obtain ⟨-, -, rfl, rfl⟩ := hAt
  case inside =>
    obtain ⟨d, hAnswer, hDecode⟩ := decodeAnswer_of_not_readsOutside h
    exact ⟨_, d, vSuccess_iff, hAnswer, routeBack_of_ok hDecode _⟩
  case outside => exact routeBack_of_error (decodeAnswer_of_readsOutside h) _

/-! ### Who gets the Emit -/

/-- Only an answer that carries the request's address has a value (R182, R193); of REGISTER and GENERIC none is asked. -/
theorem addressOk_of_answerOf_value {ps : Params} {r : PendingRequest} {buf : List Byte} {count : Nat} {v : Value}
    (h : AnswerOf ps r buf count (.value v)) : AddressOk r buf := by
  rcases kind_classes (kind r.payload) with hk | hk | hk | hk
  · obtain ⟨_, _, -, hDecode⟩ := decodeAnswer_of_queryKind (ps := ps) hk
    rcases ((hDecode buf count).2 _).1 h with ⟨_, -, hv⟩ | ⟨-, -, hv⟩ | ⟨-, hAddr, -⟩
    · cases hv
    · cases hv
    · exact hAddr
  · rcases (answerOf_of_echoKind_iff hk _).1 h with ⟨_, -, hv⟩ | ⟨-, -, hv⟩ | ⟨-, -, -, hv⟩ | ⟨-, hv⟩ <;> cases hv
  · exact addressOk_of_register hk buf
  · exact addressOk_of_generic hk buf

/-- If a step answers a next state, its events follow the history, and an Emit among them goes to an owner with `p`. -/
def EmitsOnlyTo (p : SessionId → Prop) (s : State) (k : Step) : Prop :=
  ∀ t, k = .next t → ∃ es, t.hist = s.hist ++ es ∧ ∀ o g v, Event.emitted o g v ∈ es → p o

section

variable {p : SessionId → Prop} {s : State}

theorem notEnabled_emitsOnlyTo : EmitsOnlyTo p s (notEnabled s) := by
  rintro t ⟨⟩
  exact ⟨[], by simp⟩

theorem guarded_emitsOnlyTo {i : Instr} {k : Step} (h : EmitsOnlyTo p s k) : EmitsOnlyTo p s (guarded i s k) := by
  unfold guarded
  split
  · exact h
  · rintro t ⟨⟩
    exact ⟨[_], rfl, by simp⟩

theorem routeBack_emitsOnlyTo {r : PendingRequest} (h : AddressOk r s.rxb → p r.owner) (v : Decoded → Reply) :
    EmitsOnlyTo p s (routeBack r v s) := by
  intro t ht
  cases hd : decodeAnswer s.params r s.rxb s.rxCount with
  | error f => cases (routeBack_of_error hd v).symm.trans ht
  | ok d =>
    cases (routeBack_of_ok hd v).symm.trans ht
    refine ⟨_, rfl, fun o g x hx => ?_⟩
    cases d with
    | value y =>
      obtain ⟨rfl, -⟩ : o = r.owner ∧ g = r.target ∧ x = y := by simpa [eventsOf] using hx
      exact h (addressOk_of_answerOf_value (answerOf_of_decodeAnswer hd))
    | discard y => simp [eventsOf] at hx
    | noEvent => simp [eventsOf] at hx

end

/-- Settles O52: of both operations only the route-back emits. -/
theorem emitOnlyToTheOwner : Obligations.EmitOnlyToTheOwner := by
  refine ⟨fun s t r buf count => ?decode, fun s t => ?deliver⟩
  case decode =>
    refine guarded_emitsOnlyTo (p := fun o => o = r.owner ∧ AddressOk r buf) ?_ t
    split
    next h =>
      obtain ⟨-, -, rfl, -⟩ := h
      exact routeBack_emitsOnlyTo (fun hAddr => ⟨rfl, hAddr⟩) _
    next => exact notEnabled_emitsOnlyTo
  case deliver =>
    refine guarded_emitsOnlyTo (p := fun o => ∃ r, s.cur = some r ∧ o = r.owner ∧ AddressOk r s.rxb) ?_ t
    split
    next r _ hr => exact routeBack_emitsOnlyTo (fun hAddr => ⟨r, hr, rfl, hAddr⟩) _
    next => exact notEnabled_emitsOnlyTo

/-! ### The bytes that are not read -/

section

variable {ps : Params} {s : State} {r : PendingRequest} {buf other : List Byte} {count n : Nat}

theorem baseReason_congr (hCrc : ps.checkRxCrc = false) (hLength : buf.length = other.length) (h0 : buf[0]? = other[0]?) :
    baseReason ps buf count n = baseReason ps other count n := by
  simp only [baseReason, List.head?_eq_getElem?, hCrc, hLength, h0, Bool.false_eq_true, false_and]

theorem vBase_congr (hCrc : ps.checkRxCrc = false) (hLength : buf.length = other.length) (h0 : buf[0]? = other[0]?) :
    vBase ps buf count n = vBase ps other count n := by
  simp only [vBase, List.head?_eq_getElem?, hCrc, hLength, h0, Bool.not_false, Bool.true_or]

theorem vAddr_congr (hLength : buf.length = other.length) (h1 : buf[1]? = other[1]?) (h2 : buf[2]? = other[2]?) :
    vAddr r buf = vAddr r other := by
  simp only [vAddr, hLength, h1, h2]

theorem vEcho_congr (hLength : buf.length = other.length)
    (hTake : buf.take r.payload.length = other.take r.payload.length) : vEcho r buf = vEcho r other := by
  simp only [vEcho, hLength, hTake]

theorem vRegack_congr (hLength : buf.length = other.length) (h8 : buf[8]? = other[8]?) (h9 : buf[9]? = other[9]?) :
    vRegack r buf = vRegack r other := by
  simp only [vRegack, hLength, h8, h9]

theorem addressedReason_congr (hBase : baseReason ps buf count r.expLen = baseReason ps other count r.expLen)
    (hAddr : vAddr r buf = vAddr r other) : addressedReason ps r buf count = addressedReason ps r other count := by
  simp only [addressedReason, hBase, hAddr]

theorem valueAnswer_congr (hReason : addressedReason ps r buf count = addressedReason ps r other count)
    (h5 : buf[5]? = other[5]?) (value : Byte → Decoded) :
    valueAnswer ps r buf count value = valueAnswer ps r other count value := by
  simp only [valueAnswer, hReason, memRead, h5]

theorem decRegack_congr (hBase : baseReason ps buf count r.expLen = baseReason ps other count r.expLen)
    (hAck : vRegack r buf = vRegack r other) : decRegack ps r buf count = decRegack ps r other count := by
  simp only [decRegack, hBase, hAck]

theorem echoAnswer_congr (hReason : addressedReason ps r buf count = addressedReason ps r other count)
    (hEcho : vEcho r buf = vEcho r other) : echoAnswer ps r buf count = echoAnswer ps r other count := by
  simp only [echoAnswer, hReason, hEcho]

theorem getElem?_eq_of_take_eq {i : Nat} (h : buf.take n = other.take n) (hi : i < n) : buf[i]? = other[i]? := by
  rw [← List.getElem?_take_of_lt hi, h, List.getElem?_take_of_lt hi]

/-! ### Success by class (`successByClass`), as an equation of validators -/

theorem vSuccess_of_queryKind (hk : QueryKind (kind r.payload)) (buf : List Byte) :
    vSuccess ps r buf count = (vBase ps buf count r.expLen && vAddr r buf) := by
  obtain ⟨-, hQuery, -⟩ := successByClass ps r buf count
  rw [Bool.eq_iff_iff, Bool.and_eq_true, vBase_iff, vAddr_iff, hQuery hk]

theorem vSuccess_of_echoKind (hk : EchoKind (kind r.payload)) (buf : List Byte) :
    vSuccess ps r buf count = (vBase ps buf count r.expLen && vEcho r buf) := by
  obtain ⟨-, -, hEcho, -⟩ := successByClass ps r buf count
  rw [Bool.eq_iff_iff, Bool.and_eq_true, vBase_iff, vEcho_iff, hEcho hk]

theorem vSuccess_of_register (hk : kind r.payload = .register) (buf : List Byte) :
    vSuccess ps r buf count = (vBase ps buf count r.expLen && vRegack r buf) := by
  obtain ⟨-, -, -, hRegister, -⟩ := successByClass ps r buf count
  rw [Bool.eq_iff_iff, Bool.and_eq_true, vBase_iff, vRegack_iff, hRegister hk]

theorem vSuccess_of_generic (hk : kind r.payload = .generic) (buf : List Byte) :
    vSuccess ps r buf count = vBase ps buf count r.expLen := by
  obtain ⟨-, -, -, -, hGeneric⟩ := successByClass ps r buf count
  rw [Bool.eq_iff_iff, vBase_iff, hGeneric hk]

/-! ### Two buffers parsed alike -/

/-- Buffers that succeed alike and are decoded alike are parsed alike: the rest of the step is the same of both. -/
theorem sameParse_of_eq (hSuccess : vSuccess s.params r buf count = vSuccess s.params r other count)
    (hDecode : decodeAnswer s.params r buf count = decodeAnswer s.params r other count) :
    SameParse s r buf other count := by
  refine ⟨hSuccess, fun t ht => ?_⟩
  rw [exec_decode_routingBack] at ht ⊢
  cases hd : decodeAnswer s.params r buf count with
  | error f => cases (routeBack_of_error (s := routingBack s r buf count) hd _).symm.trans ht
  | ok d =>
    have hOther : decodeAnswer s.params r other count = .ok d := hDecode ▸ hd
    cases (routeBack_of_ok (s := routingBack s r buf count) hd _).symm.trans ht
    refine ⟨_, vSuccess s.params r buf count, eventsOf r d,
      routeBack_of_ok (s := routingBack s r other count) hOther _, rfl, rfl, ?_⟩
    rw [hSuccess]
    rfl

end

/-- Settles O51: for each class of kinds the checks that are made, and the value byte, read only what agrees. -/
theorem decodeIgnoresUnreadBytes : Obligations.DecodeIgnoresUnreadBytes := by
  intro s r buf other count hCrc hLength
  refine ⟨fun hk hBytes => ?query, fun hk hBytes => ?register, fun hk hTake => ?echo, fun hk h0 => ?generic⟩
  case query =>
    obtain ⟨h0, h1, h2, h5⟩ : buf[0]? = other[0]? ∧ buf[1]? = other[1]? ∧ buf[2]? = other[2]? ∧ buf[5]? = other[5]? := by
      simpa using hBytes
    have hAddr := vAddr_congr (r := r) hLength h1 h2
    obtain ⟨value, _, -, hDecode⟩ := decodeAnswer_of_queryKind (ps := s.params) hk
    refine sameParse_of_eq ?_ ?_
    · simp only [vSuccess_of_queryKind hk, vBase_congr hCrc hLength h0, hAddr]
    · rw [(hDecode buf count).1, (hDecode other count).1]
      exact valueAnswer_congr (addressedReason_congr (baseReason_congr hCrc hLength h0) hAddr) h5 value
  case register =>
    obtain ⟨h0, h8, h9⟩ : buf[0]? = other[0]? ∧ buf[8]? = other[8]? ∧ buf[9]? = other[9]? := by simpa using hBytes
    have hAck := vRegack_congr (r := r) hLength h8 h9
    refine sameParse_of_eq ?_ ?_
    · simp only [vSuccess_of_register hk, vBase_congr hCrc hLength h0, hAck]
    · simp only [decodeAnswer_of_register hk, decRegack_congr (baseReason_congr hCrc hLength h0) hAck]
  case echo =>
    have hFive := five_le_length_of_echoKind hk
    have hByte : ∀ i, i < 5 → buf[i]? = other[i]? := fun i hi => getElem?_eq_of_take_eq hTake (by omega)
    have hBase := baseReason_congr (n := r.expLen) (count := count) hCrc hLength (hByte 0 (by omega))
    have hAddr := vAddr_congr (r := r) hLength (hByte 1 (by omega)) (hByte 2 (by omega))
    have hEcho := vEcho_congr hLength hTake
    refine sameParse_of_eq ?_ ?_
    · simp only [vSuccess_of_echoKind hk, vBase_congr hCrc hLength (hByte 0 (by omega)), hEcho]
    · simp only [decodeAnswer_of_echoKind hk, echoAnswer_congr (addressedReason_congr hBase hAddr) hEcho]
  case generic =>
    refine sameParse_of_eq ?_ ?_
    · simp only [vSuccess_of_generic hk, vBase_congr hCrc hLength h0]
    · simp only [decodeAnswer_of_generic hk]

end Sys2Proof.Machine
end

-- The queue, the producers and the host (O13, O31 to O35).
section
/-! ## The queue and the producers

ENQUEUE and SEND check in the order of R307 and then append to the queue (R220 to R222): an equation per case. A SEND that waits
takes the first delivery of its request from the history (log 19), and DISPOSE is the host's (R233). -/

namespace Sys2Proof.Machine

open Sys2Proof.Claim

section

variable {s : State} {q o : SessionId}

/-! ### ENQUEUE -/

theorem exec_enqueue_of_producer (hs : s.agent = .producer q) (r : PendingRequest) :
    exec (.enqueue r) s = enqueueRequest r s :=
  guarded_of_producer (i := .enqueue r) rfl hs _

theorem badLengths_eq_true_iff (r : PendingRequest) : badLengths r.payload r.expLen = true ↔ ¬ LengthsOk r := by
  rw [← Bool.not_eq_false, badLengths_eq_false_iff]
  rfl

theorem enqueueRequest_of_not_lengthsOk {r : PendingRequest} (hd : s.disposed = false) (hl : ¬ LengthsOk r) :
    enqueueRequest r s = .next (refusedWith s .badArgument 11#8 r.payload) := by
  simp only [enqueueRequest, hd, (badLengths_eq_true_iff r).2 hl]
  rfl

/-! ### SEND, its first step -/

theorem exec_send_of_producer (hs : s.agent = .producer q) (p : List Byte) (n : Nat) (t : Option ChannelTag) :
    exec (.send o p n t) s =
      if s.disposed then refuse .disposed p s
      else if badGeneric p n then refuse .badArgument p s
      else if s.queueFull then notEnabled s
      else underWay
        { s.enqueued (genericRequest o p n (t.getD .other)) with sends := s.sends ++ [⟨s.agent, o, s.enqSeq⟩] } :=
  guarded_of_producer (i := .send o p n t) rfl hs _

/-- MK_GENERIC refuses the lengths ENQUEUE refuses, and a table payload with another length than its row's (R164). -/
theorem badGeneric_eq_true_iff (p : List Byte) (n : Nat) (g : ChannelTag) :
    badGeneric p n = true ↔ ¬ LengthsOk (request o p n g) ∨ (kind p ≠ .generic ∧ n ≠ expLenOf p none) := by
  rw [badGeneric_iff]
  refine or_congr_left ?_
  simp only [LengthsOk, request]
  omega

theorem badGeneric_eq_false {p : List Byte} {n : Nat} {g : ChannelTag} (hl : LengthsOk (request o p n g))
    (hRow : kind p ≠ .generic → n = expLenOf p none) : badGeneric p n = false := by
  rw [← Bool.not_eq_true, badGeneric_eq_true_iff (o := o) p n g]
  rintro (h | ⟨hKind, hLen⟩)
  · exact h hl
  · exact hLen (hRow hKind)

theorem exec_send_of_badGeneric (hs : s.agent = .producer q) (hd : s.disposed = false) {p : List Byte} {n : Nat}
    (hBad : badGeneric p n = true) (t : Option ChannelTag) :
    exec (.send o p n t) s = .next (refusedWith s .badArgument 11#8 p) := by
  simp only [exec_send_of_producer hs, hd, hBad]
  rfl

theorem exec_send_of_full (hs : s.agent = .producer q) (hd : s.disposed = false) {p : List Byte} {n : Nat}
    (hGood : badGeneric p n = false) (hf : Full s) (t : Option ChannelTag) :
    exec (.send o p n t) s = .next (waiting s) := by
  simp only [exec_send_of_producer hs, hd, hGood, (queueFull_eq_true_iff s).2 hf]
  rfl

theorem exec_send_of_room (hs : s.agent = .producer q) (hd : s.disposed = false) {p : List Byte} {n : Nat}
    (hGood : badGeneric p n = false) (hr : Room s) (t : Option ChannelTag) :
    exec (.send o p n t) s = .next
      { accepted s (request o p n (t.getD .other)) with
        sends := s.sends ++ [⟨.producer q, o, s.enqSeq⟩], result := .underWay } := by
  simp only [exec_send_of_producer hs, hd, hGood, (queueFull_eq_false_iff s).2 hr, hs]
  rfl

/-! ### SEND, its last step -/

/-- Events that are no delivery of the request are passed over. -/
theorem deliveryOf_append_of_absent {n : Nat} {before : List Event}
    (h : ∀ b c x, Event.deliver o (some n) b c x ∉ before) (later : List Event) :
    deliveryOf o n (before ++ later) = deliveryOf o n later := by
  induction before with
  | nil => rfl
  | cons e before ih =>
    have ih := ih fun b c x hMem => h b c x (.tail e hMem)
    cases e with
    | deliver p m buf count success =>
      have hOther : ¬ (p = o ∧ m = some n) := by
        rintro ⟨rfl, rfl⟩
        exact h buf count success (.head before)
      simpa only [List.cons_append, deliveryOf, if_neg hOther] using ih
    | _ => simpa only [List.cons_append, deliveryOf] using ih

theorem deliveryOf_cons_self (n : Nat) (buf : List Byte) (count : Nat) (success : Bool) (later : List Event) :
    deliveryOf o n (.deliver o (some n) buf count success :: later) = some (.answer buf count success) :=
  if_pos ⟨rfl, rfl⟩

theorem replySend_of_some {k : Nat} {w : SendWait} {a : Reply} (hk : s.sends[k]? = some w)
    (ha : deliveryOf w.owner w.seq s.hist = some a) :
    replySend k s = .next { s with agent := w.agent, sends := s.sends.eraseIdx k, result := .ok a } := by
  simp only [replySend, hk, ha]
  rfl

theorem replySend_of_none {k : Nat} {w : SendWait} (hk : s.sends[k]? = some w)
    (ha : deliveryOf w.owner w.seq s.hist = none) :
    replySend k s = .next { s with agent := w.agent, result := .notEnabled } := by
  simp only [replySend, hk, ha]
  rfl

end

/-! ### The order in the history -/

/-- A list that begins 0, 1, ... up to some number begins with as many of them as it has. -/
theorem eq_range_of_append_eq_range {n : Nat} {as bs : List (Option Nat)} (h : as ++ bs = (List.range n).map some) :
    as.length ≤ n ∧ as = (List.range as.length).map some := by
  have hLength : as.length ≤ n := by
    have := congrArg List.length h
    simp at this
    omega
  have hTake : as = ((List.range n).map some).take as.length := by rw [← h, List.take_left]
  refine ⟨hLength, hTake.trans ?_⟩
  rw [← List.map_take, List.take_range, Nat.min_eq_left hLength]

theorem count_range_map_some {m n : Nat} (h : m < n) : ((List.range n).map some).count (some m) = 1 :=
  List.count_eq_one_of_mem (List.nodup_range.map (Option.some_injective _))
    (List.mem_map_of_mem (List.mem_range.2 h))

/-- What is delivered, in flight and queued is, in this order, what was accepted (R73, R76). -/
theorem FifoInv.partition {s : State} (hf : FifoInv s) :
    deliverSeqs s.hist ++ (s.cur.toList.map (·.seq) ++ s.queue.map (·.seq)) = (List.range s.enqSeq).map some := by
  rw [← hf.accepted, hf.dequeued, hf.delivered, List.append_assoc]

/-- Settles O13: of the three parts of `FifoInv.partition` the deliveries are the first, and each number stands in one. -/
theorem deliveriesFollowAcceptance : Obligations.DeliveriesFollowAcceptance := by
  intro s hf
  obtain ⟨hLength, hRange⟩ := eq_range_of_append_eq_range hf.partition
  refine ⟨⟨_, hLength, hRange⟩, fun n hn => ?_⟩
  have hOnce : (deliverSeqs s.hist).count (some n) +
      ((s.cur.toList.map (·.seq)).count (some n) + (s.queue.map (·.seq)).count (some n)) = 1 := by
    rw [← List.count_append, ← List.count_append, hf.partition, count_range_map_some hn]
  have hDequeued : (deqSeqs s.hist).count (some n) =
      (deliverSeqs s.hist).count (some n) + (s.cur.toList.map (·.seq)).count (some n) := by
    rw [hf.delivered, List.count_append]
  by_cases hMem : some n ∈ deliverSeqs s.hist
  · have := List.count_pos_iff.2 hMem
    exact .inl (by omega)
  · have hZero := List.count_eq_zero.2 hMem
    have hRest : some n ∈ s.cur.toList.map (·.seq) ++ s.queue.map (·.seq) := by
      rw [← List.count_pos_iff, List.count_append]
      omega
    refine .inr ⟨hZero, ?_⟩
    simpa only [List.mem_append, List.mem_map, Option.mem_toList, Option.mem_def] using hRest

/-- Settles O31: the cases of `enqueueRequest` in the order of R307. -/
theorem enqueueAppendsNumberedRequest : Obligations.EnqueueAppendsNumberedRequest := by
  intro s q r hs
  rw [exec_enqueue_of_producer hs]
  exact ⟨rfl, fun hd => enqueueRequest_of_disposed hd r, enqueueRequest_of_not_lengthsOk, enqueueRequest_of_full,
    enqueueRequest_of_room⟩

/-- Settles O32: ENQUEUE on a full queue and with room, each in the wrapper of its move (`step_invoke`, `step_retry`). -/
theorem fullQueueHoldsTheProducer : Obligations.FullQueueHoldsTheProducer := by
  intro s q t r rest hDecode hl hd
  refine ⟨fun hin hb hf => ?held, fun k hin hk hb hr => ?taken, fun hDepth hs => ?unbounded⟩
  case held =>
    have hExec : exec (.enqueue r) { s with inputs := rest, agent := .producer q } = .next (waiting _) :=
      (exec_enqueue_of_producer rfl r).trans (enqueueRequest_of_full hd hl hf)
    rw [step_invoke hin hb hDecode, hExec, returnAfter_of_ne (i := .enqueue r) nofun]
    exact heldAfter_of_notEnabled t rfl nofun
  case taken =>
    have hExec : exec (.enqueue r) { s with inputs := rest, agent := .producer q } =
        .next { accepted _ r with result := .ok (.seq s.enqSeq) } :=
      (exec_enqueue_of_producer rfl r).trans (enqueueRequest_of_room hd hl hr)
    rw [step_retry hin hk hb hDecode, hExec, returnAfter_of_ne (i := .enqueue r) nofun]
    exact releasedAfter_of_enabled k nofun
  case unbounded =>
    have hRoom : Room s := fun n hn => nomatch hDepth.symm.trans hn
    rw [exec_enqueue_of_producer hs, enqueueRequest_of_room hd hl hRoom]

/-- Settles O33: the operands refused are those of `badGeneric_eq_true_iff`; the rest is ENQUEUE's. -/
theorem sendQueuesItsRequest : Obligations.SendQueuesItsRequest := by
  intro s q o p n t hs r
  have hTarget : r = request o p n (t.getD .other) := by cases t <;> rfl
  rw [hTarget]
  refine ⟨rfl, fun hd => ?disposed, fun hd hBad => ?refused, fun hd hl hRow hf => ?full, fun hd hl hRow hr => ?room⟩
  case disposed => exact exec_send_of_disposed hd o p n t (permitted_of_producer rfl hs)
  case refused => exact exec_send_of_badGeneric hs hd ((badGeneric_eq_true_iff p n _).2 hBad) t
  case full => exact exec_send_of_full hs hd (badGeneric_eq_false hl hRow) hf t
  case room => exact exec_send_of_room hs hd (badGeneric_eq_false hl hRow) hr t

/-- Settles O34: the search of the history passes over what comes before the delivery. -/
theorem sendReturnsItsDelivery : Obligations.SendReturnsItsDelivery := by
  intro s k w rest hin hk
  have hStep : step s = replySend k { s with inputs := rest } := step_of_inputs hin
  rw [hStep]
  refine ⟨fun before later buf count success hHist hFirst => ?found, fun hAbsent => ?none⟩
  case found =>
    refine replySend_of_some (s := { s with inputs := rest }) hk ?_
    rw [hHist, deliveryOf_append_of_absent hFirst, deliveryOf_cons_self]
  case none =>
    refine replySend_of_none (s := { s with inputs := rest }) hk ?_
    have hSearch := deliveryOf_append_of_absent hAbsent []
    rwa [List.append_nil] at hSearch

/-- Settles O35: DISPOSE is the host's, and the second one finds DISPOSED set. -/
theorem disposeSetsDisposed : Obligations.DisposeSetsDisposed := by
  intro s hs
  have hExec : exec .dispose s =
      if s.disposed then reply .unit s else reply .unit { s with disposed := true, hist := s.hist ++ [.disposed] } :=
    guarded_of_host rfl hs _
  exact ⟨rfl, fun hd => hExec.trans (if_neg (ne_true_of_eq_false hd)), fun hd => hExec.trans (if_pos hd)⟩

end Sys2Proof.Machine
end

-- The dispatcher's transitions (O37 to O44).
section
/-! ## An attempt

D_ATTEMPT and EXCHANGE begin and end an exchange of CUR alike (R227, R270; log 18): the cases of its first step, and of the retry
decision that ends it, on the line (`exchangeEnd_decides`) or at once (`beginExchange_offline_decides`). -/

namespace Sys2Proof.Machine

open Sys2Proof.Claim

section

variable {s u : State} {r : PendingRequest}

/-! ### The retry decision -/

/-- The retry decision, of a state `u` that the exchange has left with the count, the bound and DISPOSED of `s`. -/
theorem attemptEnded_decides (hParams : u.params = s.params) (hAttempt : u.attempt = s.attempt)
    (hDisposed : u.disposed = s.disposed) (r : PendingRequest) (o : ExchangeOutcome) (v : Reply) :
    DecidesRetry s r (o = .fault) { u with attempt := s.attempt + 1, result := .ok v } (reply v (u.attemptEnded r o)) := by
  rw [DecidesRetry, ← vSuccess_iff, ← hParams, ← hAttempt, ← hDisposed, State.attemptEnded]
  refine ⟨fun hf => ?faulted, fun hf hs => ?success, fun hf hs hl => ?last, fun hf hs hl hd => ?again⟩
  case faulted => rw [if_pos hf]; rfl
  case success => rw [if_neg hf, if_pos hs]; rfl
  case last => rw [if_neg hf, if_neg hs, if_pos hl]; rfl
  case again =>
    have hMore : ¬ (u.params.maxAttempts ≤ u.attempt + 1 ∨ u.disposed = true) := by simp [hl, hd]
    rw [if_neg hf, if_neg hs, if_neg hMore]
    rfl

/-- Where nothing was received there is no success (R180, R196). -/
theorem not_whole_zero (buf : List Byte) (n : Nat) : ¬ Whole buf 0 n := by
  rintro ⟨hPos, -, rfl⟩
  omega

theorem not_success_zero (ps : Params) (r : PendingRequest) (buf : List Byte) : ¬ Success ps r buf 0 :=
  fun ⟨⟨hWhole, _⟩, _⟩ => not_whole_zero _ _ hWhole

/-! ### The last step -/

theorem eq_of_drawsLine {a : LineAnswer} (h : DrawsLine s a u) : a = s.lineAnswer ∧ u = s.afterLine := by
  unfold State.lineAnswer State.afterLine
  rcases h with ⟨more, hIn, rfl⟩ | ⟨hIn, rfl, rfl⟩ <;> simp [hIn]

theorem exchangeAnswered_eq (s : State) (n : Nat) (a : LineAnswer) :
    s.exchangeAnswered n a = exchanged s n s.curSeq a := by
  cases a with
  | bytes avail => rfl
  | ioFailure => simp [State.exchangeAnswered, State.raise, State.emit, exchanged, zeros, blank, Cause.code]
  | fault => rfl

theorem outcomeOf_eq_fault_iff (a : LineAnswer) : outcomeOf a = .fault ↔ a = .fault := by
  cases a <;> simp [outcomeOf]

theorem exchangeAnswered_params (s : State) (n : Nat) (a : LineAnswer) : (s.exchangeAnswered n a).params = s.params := by
  cases a <;> rfl

theorem exchangeAnswered_attempt (s : State) (n : Nat) (a : LineAnswer) :
    (s.exchangeAnswered n a).attempt = s.attempt := by
  cases a <;> rfl

theorem exchangeAnswered_disposed (s : State) (n : Nat) (a : LineAnswer) :
    (s.exchangeAnswered n a).disposed = s.disposed := by
  cases a <;> rfl

theorem curSeq_of_cur (hc : s.cur = some r) : s.curSeq = r.seq := by
  simp only [State.curSeq, hc]

theorem exchangeEnd_of_cur (hc : s.cur = some r) (n : Nat) (b : Bool) :
    exchangeEnd n b s = reply (exchangeReply b (outcomeOf s.lineAnswer))
      ((s.afterLine.exchangeAnswered n s.lineAnswer).attemptEnded r (outcomeOf s.lineAnswer)) := by
  simp only [exchangeEnd, hc]

theorem finishTransport_of_exchange {n : Nat} {b : Bool} (hx : s.xop = .exchange n b) :
    finishTransport s = exchangeEnd n b { s with agent := .dispatcher } := by
  simp only [finishTransport, hx]

/-- Step X2 of an exchange of CUR for any drawn answer, with the retry decision (R227, R270, R272, R273). -/
theorem exchangeEnd_decides {d : State} {a : LineAnswer} (hc : s.cur = some r) (hDraw : DrawsLine s a d) (n : Nat)
    (b : Bool) :
    DecidesRetry s r (a = .fault)
      { exchanged d n r.seq a with attempt := s.attempt + 1, result := .ok (exchangeReply b (outcomeOf a)) }
      (exchangeEnd n b s) := by
  obtain ⟨rfl, rfl⟩ := eq_of_drawsLine hDraw
  have hLine : SameCore s s.afterLine := sameCore_afterLine s
  rw [exchangeEnd_of_cur hc, ← curSeq_of_cur (hLine.cur.trans hc), ← exchangeAnswered_eq, ← outcomeOf_eq_fault_iff]
  exact attemptEnded_decides ((exchangeAnswered_params _ _ _).trans hLine.params)
    ((exchangeAnswered_attempt _ _ _).trans hLine.attempt) ((exchangeAnswered_disposed _ _ _).trans hLine.disposed) r _ _

/-! ### The first step -/

theorem connected_iff (s : State) : s.connected = true ↔ Online s := by
  simp only [State.connected, Bool.and_eq_true, decide_eq_true_iff, Online]

theorem beginExchange_of_held (hk : s.tlock ≠ .free) (r : PendingRequest) (b : Bool) :
    beginExchange r b s = .next (waiting s) :=
  if_pos hk

theorem beginExchange_of_online (hk : s.tlock = .free) (ho : Online s) (r : PendingRequest) (b : Bool) :
    beginExchange r b s = .next
      { s with
        tlock := .heldExchange
        xop := .exchange r.expLen b
        txb := r.payload ++ crcBytes (crc16 r.payload)
        hist := s.hist ++ [.tx (r.payload ++ crcBytes (crc16 r.payload))]
        result := .underWay } := by
  rw [beginExchange, if_neg (not_not.2 hk), if_pos ((connected_iff s).2 ho)]
  rfl

/-- On a bus that is not connected the first step is the last, with RXB zeros and the retry decision (R271). -/
theorem beginExchange_offline_decides (hk : s.tlock = .free) (ho : ¬ Online s) (r : PendingRequest) (b : Bool) :
    DecidesRetry s r False
      { s with
        rxb := blank r.expLen, rxCount := 0, hist := s.hist ++ [.rx (blank r.expLen) 0], attempt := s.attempt + 1,
        result := .ok (exchangeReply b .notOnline) }
      (beginExchange r b s) := by
  have hNoFault : (ExchangeOutcome.notOnline = .fault) = False := eq_false nofun
  rw [beginExchange, if_neg (not_not.2 hk), if_neg (mt (connected_iff s).1 ho), ← hNoFault]
  exact attemptEnded_decides (u := s.exchangeOffline r.expLen) rfl rfl rfl r _ _

theorem exec_dAttempt_of_cur (hs : s.agent = .dispatcher) (he : s.dstate = .exch) (hc : s.cur = some r)
    (hp : r.payload.length ≤ 253) : exec .dAttempt s = beginExchange r true s := by
  have hFits : ¬ payloadTooLong r.payload = true := payloadTooLong_iff.not.2 (Nat.not_lt.2 hp)
  refine (guarded_of_dispatcher (i := .dAttempt) rfl hs _).trans ?_
  simp only [he, hc, if_neg hFits]

end

/-- Settles O40: the move ends the exchange under way, as `exchangeEnd_decides` has it. -/
theorem attemptDecidesRetry : Obligations.AttemptDecidesRetry := by
  intro s d r n a rest hin hx hc hDraw
  have hStep : step s = exchangeEnd n true { s with inputs := rest, agent := .dispatcher } :=
    (step_of_inputs hin).trans (finishTransport_of_exchange (s := { s with inputs := rest }) hx)
  rw [hStep]
  exact exchangeEnd_decides (s := { s with inputs := rest, agent := .dispatcher }) hc hDraw n true

/-- Settles O39: the cases of `beginExchange`; offline nothing was received, so the decision is a failure's. -/
theorem attemptSendsTheFrame : Obligations.AttemptSendsTheFrame := by
  intro s r hs he hc hp
  rw [exec_dAttempt_of_cur hs he hc hp]
  refine ⟨rfl, fun hk => beginExchange_of_held hk r true, fun hk ho => beginExchange_of_online hk ho r true,
    fun hk ho hl hd => ?again, fun hk ho hl => ?last⟩
  all_goals
    obtain ⟨-, -, hLast, hAgain⟩ := beginExchange_offline_decides hk ho r true
  case again => exact hAgain not_false (not_success_zero _ _ _) hl hd
  case last =>
    rw [hLast not_false (not_success_zero _ _ _) hl, recorded, List.append_assoc]
    rfl

end Sys2Proof.Machine
end

section
/-! ## The dispatcher's transitions

The dispatcher's state selects one transition (R240): `Selects` writes out which, every other one is not enabled
(`exec_of_not_selects`), and each has an equation for the state that enables it (R224 to R231). -/

namespace Sys2Proof.Machine

open Sys2Proof.Claim

/-- The states that enable a transition, but for the wait on TLOCK of D_ATTEMPT and D_STOP (R224 to R231). -/
def Selects (s : State) : Instr → Prop
  | .dFetch => s.dstate = .idle ∧ s.disposed = false ∧ s.queue ≠ []
  | .dSleep => s.dstate = .idle ∧ s.disposed = false ∧ s.queue = []
  | .dWake => s.dstate = .sleep ∧ s.disposed = false
  | .dAttempt => s.dstate = .exch
  | .dRetry => s.dstate = .backoff
  | .dDeliver => s.dstate = .deliver
  | .dStop => (s.dstate = .idle ∨ s.dstate = .sleep) ∧ s.disposed = true
  | _ => False

section

variable {s : State} {i : Instr} {r : PendingRequest}

theorem nextTransition_eq_some_iff : s.nextTransition = some i ↔ Selects s i := by
  unfold State.nextTransition
  constructor
  · intro h
    repeat' split at h
    all_goals cases h
    all_goals simp_all [Selects]
  · intro h
    unfold Selects at h
    split at h
    case h_7 => rcases h with ⟨hRest | hRest, hd⟩ <;> simp [hRest, hd]
    all_goals simp_all

theorem mem_transitions_of_selects (h : Selects s i) : i ∈ transitions := by
  unfold Selects at h
  split at h <;> simp_all [transitions]

/-- R240: of two selected transitions both are the next one. -/
theorem eq_of_selects {j : Instr} (hi : Selects s i) (hj : Selects s j) : i = j :=
  Option.some.inj ((nextTransition_eq_some_iff.2 hi).symm.trans (nextTransition_eq_some_iff.2 hj))

theorem not_selects_of_stopped (h : s.dstate = .stopped) (i : Instr) : ¬ Selects s i := by
  rw [← nextTransition_eq_some_iff]
  simp [State.nextTransition, h]

/-! ### D_STOP -/

theorem ne_generic_of_queryKind {k : Kind} (h : QueryKind k) : k ≠ .generic := by
  rcases h with rfl | rfl | rfl | rfl <;> simp

theorem addressedReason_of_not_whole {ps : Params} {buf : List Byte} {count : Nat} (h : ¬ Whole buf count r.expLen) :
    addressedReason ps r buf count = some .short := by
  have hBase : baseReason ps buf count r.expLen = some .short := if_pos h
  simp only [addressedReason, hBase]

/-- Of a response that was not received whole DECODE finds SHORT, but for GENERIC (R190, R191, R200). -/
theorem decodeAnswer_of_not_whole {ps : Params} {buf : List Byte} {count : Nat} (h : ¬ Whole buf count r.expLen) :
    decodeAnswer ps r buf count = .ok (if kind r.payload = .generic then .noEvent else .discard .short) := by
  have hReason := addressedReason_of_not_whole (ps := ps) h
  rcases kind_classes (kind r.payload) with hk | hk | hk | hk
  · obtain ⟨value, _, -, hDecode⟩ := decodeAnswer_of_queryKind (ps := ps) hk
    rw [(hDecode buf count).1, if_neg (ne_generic_of_queryKind hk)]
    simp only [valueAnswer, hReason]
  · rw [decodeAnswer_of_echoKind hk, if_neg (ne_generic_of_echoKind hk)]
    simp only [echoAnswer, hReason]
  · have hBase : baseReason ps buf count r.expLen = some .short := if_pos h
    rw [decodeAnswer_of_register hk, if_neg (by simp [hk])]
    simp only [decRegack, hBase]
  · rw [decodeAnswer_of_generic hk, if_pos hk]

/-- The requests still queued are delivered with zeros, which no request's answer is (R231). -/
theorem drainEvents_eq (ps : Params) (q : List PendingRequest) : drainEvents ps q = .ok (stopEvents q) := by
  induction q with
  | nil => rfl
  | cons r rest ih =>
    have hDecode := decodeAnswer_of_not_whole (ps := ps) (r := r) (not_whole_zero (zeros r.expLen) r.expLen)
    simp only [drainEvents, hDecode, ih, stopEvents, List.flatMap_cons]
    split_ifs <;> rfl

theorem stopDispatcher_of_mayStop (h : MayStop s) : stopDispatcher s = .next (stopped s) := by
  refine (if_pos h).trans ?_
  rw [drainEvents_eq]
  rfl

theorem stopDispatcher_of_not_mayStop (h : ¬ MayStop s) : stopDispatcher s = .next (waiting s) := if_neg h

theorem not_mayStop_of_stopped (h : s.dstate = .stopped) : ¬ MayStop s := by
  simp [MayStop, h]

theorem exec_dStop (hs : s.agent = .dispatcher) : exec .dStop s = stopDispatcher s :=
  guarded_of_dispatcher (i := .dStop) rfl hs _

theorem exec_disconnect_permanent (hs : s.agent = .dispatcher) : exec (.disconnect true) s = stopDispatcher s :=
  guarded_of_dispatcher (i := .disconnect true) rfl hs _

/-! ### A transition that is not selected -/

/-- R13, R240: the state that does not select a transition does not enable it (log 20). -/
theorem exec_of_not_selects (hs : s.agent = .dispatcher) :
    ∀ i ∈ transitions, ¬ Selects s i → exec i s = .next (waiting s) := by
  simp only [transitions, List.forall_mem_cons]
  refine ⟨fun h => ?dFetch, fun h => ?dSleep, fun h => ?dWake, fun h => ?dAttempt, fun h => ?dRetry, fun h => ?dDeliver,
    fun h => ?dStop, nofun⟩
  case dFetch =>
    refine (guarded_of_dispatcher (i := .dFetch) rfl hs _).trans ?_
    split
    next hIdle =>
      split
      next r rest hq => exact absurd ⟨hIdle.1, hIdle.2, by simp [hq]⟩ h
      next => rfl
    next => rfl
  case dSleep => exact (guarded_of_dispatcher (i := .dSleep) rfl hs _).trans (if_neg h)
  case dWake => exact (guarded_of_dispatcher (i := .dWake) rfl hs _).trans (if_neg h)
  case dAttempt =>
    refine (guarded_of_dispatcher (i := .dAttempt) rfl hs _).trans ?_
    split
    next he _ => exact absurd he h
    next => rfl
  case dRetry => exact (guarded_of_dispatcher (i := .dRetry) rfl hs _).trans (if_neg h)
  case dDeliver =>
    refine (guarded_of_dispatcher (i := .dDeliver) rfl hs _).trans ?_
    split
    next he _ => exact absurd he h
    next => rfl
  case dStop =>
    rw [exec_dStop hs]
    exact stopDispatcher_of_not_mayStop fun ⟨hd, hRest, _⟩ => h ⟨hRest, hd⟩

theorem selects_of_wasEnabled (hs : s.agent = .dispatcher) (hi : i ∈ transitions) (h : wasEnabled (exec i s) = true) :
    Selects s i := by
  by_contra hNot
  rw [exec_of_not_selects hs i hi hNot] at h
  cases h

/-! ### A transition that is selected -/

theorem exec_dFetch_of_cons {rest : List PendingRequest} (hs : s.agent = .dispatcher) (hi : s.dstate = .idle)
    (hd : s.disposed = false) (hq : s.queue = r :: rest) :
    exec .dFetch s = .next
      { s with
        queue := rest, cur := some r, attempt := 0, dstate := .exch, hist := s.hist ++ [.deq r.seq],
        result := .ok .unit } := by
  refine (guarded_of_dispatcher (i := .dFetch) rfl hs _).trans ?_
  simp only [hi, hd, hq]
  rfl

theorem exec_dSleep_of_selects (hs : s.agent = .dispatcher) (h : Selects s .dSleep) :
    exec .dSleep s = .next { s with dstate := .sleep, result := .ok .unit } :=
  (guarded_of_dispatcher (i := .dSleep) rfl hs _).trans (if_pos h)

theorem exec_dWake_of_selects (hs : s.agent = .dispatcher) (h : Selects s .dWake) :
    exec .dWake s = .next { s with dstate := .idle, result := .ok .unit } :=
  (guarded_of_dispatcher (i := .dWake) rfl hs _).trans (if_pos h)

theorem exec_dRetry_of_not_disposed (hs : s.agent = .dispatcher) (hb : s.dstate = .backoff) (hd : s.disposed = false) :
    exec .dRetry s = .next { s with dstate := .exch, result := .ok .unit } :=
  ((guarded_of_dispatcher (i := .dRetry) rfl hs _).trans (if_pos hb)).trans (if_neg (ne_true_of_eq_false hd))

theorem exec_dRetry_of_disposed (hs : s.agent = .dispatcher) (hb : s.dstate = .backoff) (hd : s.disposed = true) :
    exec .dRetry s = .next { recorded s 9#8 s.curSeq [] with dstate := .deliver, result := .ok .unit } :=
  ((guarded_of_dispatcher (i := .dRetry) rfl hs _).trans (if_pos hb)).trans (if_pos hd)

theorem exec_dDeliver_of_cur (hs : s.agent = .dispatcher) (hd : s.dstate = .deliver) (hc : s.cur = some r) :
    exec .dDeliver s = routeBack r (fun _ => .unit) s := by
  refine (guarded_of_dispatcher (i := .dDeliver) rfl hs _).trans ?_
  simp only [hd, hc]

theorem beginExchange_wasEnabled (hk : s.tlock = .free) (r : PendingRequest) (b : Bool) :
    wasEnabled (beginExchange r b s) = true := by
  rw [beginExchange, if_neg (not_not.2 hk)]
  split <;> rfl

theorem routeBack_wasEnabled (r : PendingRequest) (v : Decoded → Reply) (s : State) :
    wasEnabled (routeBack r v s) = true := by
  cases hd : decodeAnswer s.params r s.rxb s.rxCount with
  | ok d => rw [routeBack_of_ok hd]; rfl
  | error f => rw [routeBack_of_error hd]; rfl

/-- A transition is selected in every state but STOPPED. -/
theorem exists_selects (h : s.dstate ≠ .stopped) : ∃ i, Selects s i := by
  simp only [← nextTransition_eq_some_iff, State.nextTransition]
  split
  next => split_ifs <;> exact ⟨_, rfl⟩
  next => split_ifs <;> exact ⟨_, rfl⟩
  next => exact ⟨_, rfl⟩
  next => exact ⟨_, rfl⟩
  next => exact ⟨_, rfl⟩
  next hStopped => exact absurd hStopped h

/-- R230: with the invariants, which have a CUR where one is needed (R28), and TLOCK free, the selected transition is enabled. -/
theorem wasEnabled_of_selects (hs : s.agent = .dispatcher) (hInv : Invariants s) (hk : s.tlock = .free) :
    ∀ i ∈ transitions, Selects s i → wasEnabled (exec i s) = true := by
  simp only [transitions, List.forall_mem_cons]
  refine ⟨fun h => ?dFetch, fun h => ?dSleep, fun h => ?dWake, fun h => ?dAttempt, fun h => ?dRetry, fun h => ?dDeliver,
    fun h => ?dStop, nofun⟩
  case dFetch =>
    obtain ⟨hIdle, hd, hq⟩ := h
    obtain ⟨r, rest, hq⟩ := List.exists_cons_of_ne_nil hq
    rw [exec_dFetch_of_cons hs hIdle hd hq]
    rfl
  case dSleep => rw [exec_dSleep_of_selects hs h]; rfl
  case dWake => rw [exec_dWake_of_selects hs h]; rfl
  case dAttempt =>
    obtain ⟨r, hc⟩ := Option.isSome_iff_exists.1 (hInv.curHeld.2 (.inl h))
    obtain ⟨hp, -, -⟩ := hInv.curBounds r hc
    rw [exec_dAttempt_of_cur hs h hc hp, beginExchange_wasEnabled hk]
  case dRetry =>
    cases hd : s.disposed with
    | false => rw [exec_dRetry_of_not_disposed hs h hd]; rfl
    | true => rw [exec_dRetry_of_disposed hs h hd]; rfl
  case dDeliver =>
    obtain ⟨r, hc⟩ := Option.isSome_iff_exists.1 (hInv.curHeld.2 (.inr (.inr h)))
    rw [exec_dDeliver_of_cur hs h hc, routeBack_wasEnabled]
  case dStop =>
    obtain ⟨hRest, hd⟩ := h
    rw [exec_dStop hs, stopDispatcher_of_mayStop ⟨hd, hRest, hk⟩]
    rfl

/-! ### The dispatcher's move -/

theorem dispatcherStep_of_selects (h : Selects s i) : dispatcherStep s = exec i { s with agent := .dispatcher } := by
  simp only [dispatcherStep, nextTransition_eq_some_iff.2 h]

theorem dispatcherStep_of_none (h : ∀ i, ¬ Selects s i) :
    dispatcherStep s = .next (waiting { s with agent := .dispatcher }) := by
  have hNone : s.nextTransition = none :=
    Option.eq_none_iff_forall_ne_some.2 fun i hi => h i (nextTransition_eq_some_iff.1 hi)
  simp only [dispatcherStep, hNone]
  rfl

theorem exec_of_not_wasEnabled (h : wasEnabled (exec i s) = false) : exec i s = .next (waiting s) := by
  cases hx : exec i s with
  | next t =>
    rw [hx] at h
    have hResult : t.result = .notEnabled := by simpa [wasEnabled] using h
    rw [(hx ▸ exec_ends i s : Ends s (.next t)).waiting_of_result hResult]
  | fault f => rw [hx] at h; cases h
  | refused f => rw [hx] at h; cases h

/-! ### EXCHANGE away from the attempt -/

theorem exec_exchange_of_not_atExchange {f : List Byte} {n : Nat} (hs : s.agent = .dispatcher) (hf : f.length ≤ 255)
    (h1 : 1 ≤ n) (hn : n ≤ 255) (h : ∀ r, ¬ AtExchange s f n r) : exec (.exchange f n) s = .next (waiting s) := by
  have hGood : ¬ badExchange f n = true := by
    simp only [badExchange, Bool.or_eq_true, decide_eq_true_eq, not_or]
    exact ⟨⟨Nat.not_lt.2 hf, Nat.ne_of_gt h1⟩, Nat.not_lt.2 hn⟩
  refine ((guarded_of_dispatcher (i := .exchange f n) rfl hs _).trans (if_neg hGood)).trans ?_
  split
  next r he hc => exact if_neg fun ⟨hFrame, hLen⟩ => h r ⟨he, hc, hFrame, hLen⟩
  next => rfl

end

/-- Settles O37: the one state that selects D_FETCH, and every other. -/
theorem fetchPopsTheOldest : Obligations.FetchPopsTheOldest := by
  refine fun s hs => ⟨rfl, fun r rest => exec_dFetch_of_cons hs, fun h => exec_of_not_selects hs _ (by simp [transitions]) ?_⟩
  rintro ⟨hi, hd, hq⟩
  simp [hi, hd, hq] at h

/-- Settles O38: the one state that selects each, and every other. -/
theorem sleepAndWake : Obligations.SleepAndWake := by
  intro s hs
  refine ⟨rfl, rfl, fun hi hd hq => exec_dSleep_of_selects hs ⟨hi, hd, hq⟩,
    fun h => exec_of_not_selects hs _ (by simp [transitions]) ?sleep, fun hi hd => exec_dWake_of_selects hs ⟨hi, hd⟩,
    fun h => exec_of_not_selects hs _ (by simp [transitions]) ?wake⟩
  case sleep =>
    rintro ⟨hi, hd, hq⟩
    simp [hi, hd, hq] at h
  case wake =>
    rintro ⟨hi, hd⟩
    simp [hi, hd] at h

/-- Settles O41: D_RETRY on both sides of DISPOSE, and outside BACKOFF. -/
theorem retryUnlessDisposed : Obligations.RetryUnlessDisposed := by
  refine fun s hs => ⟨rfl, exec_dRetry_of_not_disposed hs, fun r hb hd hc => ?_,
    exec_of_not_selects hs .dRetry (by simp [transitions])⟩
  rw [exec_dRetry_of_disposed hs hb hd, curSeq_of_cur hc]

/-- Settles O42: D_DELIVER is `routeBack`, and it records what `decodeAnswer` finds. -/
theorem deliverRoutesBack : Obligations.DeliverRoutesBack := by
  intro s r hs hd hc
  rw [exec_dDeliver_of_cur hs hd hc]
  refine ⟨rfl, fun h => ?inside, fun h => routeBack_of_error (decodeAnswer_of_readsOutside h) _⟩
  obtain ⟨d, hAnswer, hDecode⟩ := decodeAnswer_of_not_readsOutside h
  exact ⟨_, d, vSuccess_iff, hAnswer, routeBack_of_ok hDecode _⟩

/-- Settles O43: D_STOP on both sides of its condition, which with every other transition's is false in STOPPED. -/
theorem stopDeliversTheQueue : Obligations.StopDeliversTheQueue := by
  intro s hs
  rw [exec_dStop hs]
  refine ⟨rfl, stopDispatcher_of_mayStop, stopDispatcher_of_not_mayStop, fun hStopped =>
    ⟨fun i hi => exec_of_not_selects hs i hi (not_selects_of_stopped hStopped i), ?disconnect, fun r buf count => ?decode,
      fun f n hf h1 hn => ?exchange⟩⟩
  case disconnect =>
    rw [exec_disconnect_permanent hs, stopDispatcher_of_not_mayStop (not_mayStop_of_stopped hStopped)]
  case decode => exact exec_decode_of_not_atRouteBack hs fun ⟨hDeliver, _⟩ => nomatch hStopped.symm.trans hDeliver
  case exchange =>
    exact exec_exchange_of_not_atExchange hs hf h1 hn fun r ⟨hExch, _⟩ => nomatch hStopped.symm.trans hExch

/-- Settles O44: only the selected transition is enabled, the invariants enable it, and the dispatcher's move takes it. -/
theorem dispatcherHasOneTransition : Obligations.DispatcherHasOneTransition := by
  refine ⟨fun s hs => ⟨fun i hi j hj hEi hEj => ?one, fun hInv hRuns hk => ?enabled⟩, fun s rest hin => ?move⟩
  case one => exact eq_of_selects (selects_of_wasEnabled hs hi hEi) (selects_of_wasEnabled hs hj hEj)
  case enabled =>
    obtain ⟨i, h⟩ := exists_selects hRuns
    have hi := mem_transitions_of_selects h
    exact ⟨i, hi, wasEnabled_of_selects hs hInv hk i hi h⟩
  case move =>
    intro d
    have hStep : step s = dispatcherStep d := step_of_inputs hin
    rw [hStep]
    refine ⟨fun i hi hE => dispatcherStep_of_selects (s := d) (selects_of_wasEnabled rfl hi hE), fun hNone => ?none,
      fun hStopped => dispatcherStep_of_none (s := d) (not_selects_of_stopped hStopped)⟩
    by_cases hSelects : ∃ i, Selects d i
    · obtain ⟨i, h⟩ := hSelects
      rw [dispatcherStep_of_selects h]
      exact exec_of_not_wasEnabled (hNone i (mem_transitions_of_selects h))
    · exact dispatcherStep_of_none (not_exists.1 hSelects)

end Sys2Proof.Machine
end

-- The serial transport (O53 to O59).
section
/-! ## Characters and status registers

UART_ENCODE and READ_STATUS, which any agent may invoke and which write nothing (R260, R274): an equation for each. -/

namespace Sys2Proof.Machine

open Sys2Proof.Claim

/-! ### UART_ENCODE -/

theorem exec_uartEncode (bs : List Byte) (s : State) :
    exec (.uartEncode bs) s = .next (answered s (.bits (uartBits bs))) :=
  guarded_of_any (i := .uartEncode bs) (s := s) rfl _

theorem uartBits_cons (b : Byte) (bs : List Byte) : uartBits (b :: bs) = uartChar b ++ uartBits bs := rfl

theorem uartChar_length (b : Byte) : (uartChar b).length = 10 := rfl

theorem uartChar_data (b : Byte) {j : Nat} (hj : j < 8) : (uartChar b)[1 + j]? = some (b.getLsbD j) := by
  interval_cases j <;> rfl

theorem uartBits_length (bs : List Byte) : (uartBits bs).length = 10 * bs.length := by
  induction bs with
  | nil => rfl
  | cons b bs ih =>
    rw [uartBits_cons, List.length_append, uartChar_length, ih, List.length_cons]
    omega

/-- The ten bits at `10 * k` are the character of byte `k` (R260). -/
theorem uartBits_getElem? {bs : List Byte} {k : Nat} {b : Byte} (hb : bs[k]? = some b) {m : Nat} (hm : m < 10) :
    (uartBits bs)[10 * k + m]? = (uartChar b)[m]? := by
  induction bs generalizing k with
  | nil => simp at hb
  | cons c bs ih =>
    rw [uartBits_cons]
    cases k with
    | zero =>
      obtain rfl : c = b := by simpa using hb
      rw [Nat.mul_zero, Nat.zero_add, List.getElem?_append_left (by simpa [uartChar_length] using hm)]
    | succ k =>
      have hPlace : 10 * (k + 1) + m - (uartChar c).length = 10 * k + m := by
        rw [uartChar_length]
        omega
      rw [List.getElem?_append_right (by rw [uartChar_length]; omega), hPlace]
      exact ih (by simpa using hb)

/-- Settles O53: the wave is cut into its characters by `uartBits_getElem?`, and a character is read bit by bit. -/
theorem uartCharacters : Obligations.UartCharacters := by
  refine fun s bs => ⟨rfl, uartBits bs, exec_uartEncode bs s, uartBits_length bs, fun k b hb => ⟨?start, ?stop, ?data⟩⟩
  case start => exact uartBits_getElem? hb (m := 0) (by omega)
  case stop => exact uartBits_getElem? hb (m := 9) (by omega)
  case data =>
    intro j hj
    rw [Nat.add_assoc, uartBits_getElem? hb (by omega), uartChar_data b hj]

/-! ### READ_STATUS -/

theorem exec_readStatus (k : Nat) (s : State) :
    exec (.readStatus k) s = if 7 < k then refuse .badArgument [] s else reply (.status (s.view k)) s :=
  guarded_of_any (i := .readStatus k) (s := s) rfl _

/-- Settles O59: the two sides of the bound, and the registers of the reset state computed. -/
theorem readStatusReturnsView : Obligations.ReadStatusReturnsView := by
  refine ⟨fun s k => ⟨rfl, fun h => ?register, fun h => ?refused, rfl⟩, by decide, by decide, by decide, by decide,
    by decide, by decide, by decide⟩
  case register => exact (exec_readStatus k s).trans (if_neg (Nat.not_lt.2 h))
  case refused => exact (exec_readStatus k s).trans (if_pos h)

end Sys2Proof.Machine
end

section
/-! ## CONNECT and DISCONNECT

The first step of each for the host, and the move that takes its last step (R266 to R269): an equation per case. A draw of the
port has one outcome (`eq_of_drawsPort`), and `connectAnswered` is what CONNECT makes of it. -/

namespace Sys2Proof.Machine

open Sys2Proof.Claim

section

variable {s : State}

/-! ### CONNECT, its first step -/

theorem exec_connect_of_host (hs : s.agent = .host) (hd : s.disposed = false) :
    exec .connect s =
      if s.connected then reply (.bool true) s else if s.tlock = .free then underWay s.connectBegun else notEnabled s :=
  (guarded_of_host (i := .connect) rfl hs _).trans (if_neg (ne_true_of_eq_false hd))

theorem exec_connect_of_online (hs : s.agent = .host) (hd : s.disposed = false) (ho : Online s) :
    exec .connect s = .next (answered s (.bool true)) :=
  (exec_connect_of_host hs hd).trans (if_pos ((connected_iff s).2 ho))

theorem exec_connect_of_held (hs : s.agent = .host) (hd : s.disposed = false) (ho : ¬ Online s) (hk : s.tlock ≠ .free) :
    exec .connect s = .next (waiting s) :=
  ((exec_connect_of_host hs hd).trans (if_neg (mt (connected_iff s).1 ho))).trans (if_neg hk)

theorem exec_connect_of_free (hs : s.agent = .host) (hd : s.disposed = false) (ho : ¬ Online s) (hk : s.tlock = .free) :
    exec .connect s = .next { s.connectBegun with result := .underWay } :=
  ((exec_connect_of_host hs hd).trans (if_neg (mt (connected_iff s).1 ho))).trans (if_pos hk)

/-! ### The return of CONNECT's no-op -/

theorem returnConnect_of_free {n : Nat} (hn : s.connectReturns = n + 1) (hk : s.tlock = .free) :
    returnConnect s = .next { s with agent := .host, connectReturns := n, result := .ok (.bool true) } := by
  rw [returnConnect, if_pos ⟨by omega, hk⟩, hn]
  rfl

theorem returnConnect_of_waits (h : s.connectReturns = 0 ∨ s.tlock ≠ .free) :
    returnConnect s = .next (waiting { s with agent := .host }) :=
  if_neg fun ⟨hn, hk⟩ => h.elim hn (absurd hk)

/-! ### CONNECT, its last step -/

theorem eq_of_drawsPort {a : PortAnswer} {u : State} (h : DrawsPort s a u) : a = s.portAnswer ∧ u = s.afterPort := by
  unfold State.portAnswer State.afterPort
  rcases h with ⟨more, hIn, rfl⟩ | ⟨hIn, rfl, rfl⟩ <;> simp [hIn]

theorem hist_of_drawsPort {a : PortAnswer} {u : State} (h : DrawsPort s a u) : u.hist = s.hist := by
  obtain ⟨-, rfl⟩ := eq_of_drawsPort h
  exact s.afterPort_hist

/-- What CONNECT makes of the drawn outcome (R266). -/
def connectAnswered (d : State) : PortAnswer → State
  | .opened => { d.connectOpened with result := .ok (.bool true) }
  | .unresolvable => connectRefused d .configUnresolvablePort 2#8
  | .inUse => connectRefused d .portInUse 3#8
  | .ioError => connectRefused d .ioErrorOpen 4#8
  | .unsupported => connectRefused d .unsupportedParams 5#8

theorem reply_connectFailed (s : State) (y : OfflineReason) (c : Cause) :
    reply (.bool false) (s.connectFailed y c) = .next (connectRefused s y c.code) := by
  simp [reply, State.withResult, State.connectFailed, State.raise, connectRefused]

theorem connectEnd_of_nil (hn : s.portName = []) :
    connectEnd s = .next (connectRefused s .configEmptyPort 1#8) :=
  (if_pos hn).trans (reply_connectFailed s _ _)

theorem connectEnd_of_ne_nil (hn : s.portName ≠ []) :
    connectEnd s = .next (connectAnswered s.afterPort s.portAnswer) := by
  refine (if_neg hn).trans ?_
  cases s.portAnswer with
  | opened => rfl
  | unresolvable | inUse | ioError | unsupported => exact reply_connectFailed s.afterPort _ _

theorem connectEnd_of_drawsPort {a : PortAnswer} {d : State} (h : DrawsPort s a d) (hn : s.portName ≠ []) :
    connectEnd s = .next (connectAnswered d a) := by
  obtain ⟨rfl, rfl⟩ := eq_of_drawsPort h
  exact connectEnd_of_ne_nil hn

theorem finishTransport_of_connect (hx : s.xop = .connect) :
    finishTransport s = connectEnd { s with agent := .host } := by
  simp only [finishTransport, hx]

/-! ### DISCONNECT -/

theorem exec_disconnect_of_host (hs : s.agent = .host) :
    exec (.disconnect false) s = if s.tlock = .free then underWay s.disconnectBegun else notEnabled s :=
  guarded_of_host (i := .disconnect false) rfl hs _

theorem exec_disconnect_permanent_of_host (hs : s.agent = .host) :
    exec (.disconnect true) s = .next (refusedWith s .badOpcode 13#8 [0x41#8]) :=
  guarded_of_not_permitted (i := .disconnect true) (by rw [hs]; rfl) _

theorem finishTransport_of_disconnect (hx : s.xop = .disconnect) :
    finishTransport s = disconnectEnd { s with agent := .host } := by
  simp only [finishTransport, hx]

end

/-- Settles O54: the cases of step C1, what the step makes of a no-op's ok(true) (`StepRunsInvokedOperation`), and its return. -/
theorem connectBegins : Obligations.ConnectBegins := by
  refine ⟨fun s hs => ⟨rfl, fun hd => ?disposed, exec_connect_of_online hs, exec_connect_of_held hs,
    exec_connect_of_free hs⟩, fun s t rest hin ht hd ho => ?noOp, fun s rest hin => ?returns⟩
  case disposed => exact exec_connect_of_disposed hd ((permitted_iff_of_host rfl _).2 hs)
  case noOp =>
    obtain ⟨hDone, hWaits, -⟩ := stepRunsInvokedOperation s .host t .connect rest hin rfl ht rfl
    have hExec := exec_connect_of_online (s := { s with inputs := rest, agent := .host }) rfl hd ho
    exact ⟨fun hk => hDone _ hExec nofun fun ⟨_, _, hHeld⟩ => hHeld hk, fun hk => hWaits _ hExec ⟨rfl, rfl, hk⟩⟩
  case returns =>
    rw [step_of_inputs hin]
    exact ⟨fun n hn hk => returnConnect_of_free (s := { s with inputs := rest }) hn hk,
      fun h => returnConnect_of_waits (s := { s with inputs := rest }) h⟩

/-- Settles O55: the move sets the name; the last step looks at the name, and then at the one outcome of the draw. -/
theorem connectEnds : Obligations.ConnectEnds := by
  refine ⟨fun s name rest hin => step_of_inputs hin, fun s rest hin hx => ?_⟩
  have hStep : step s = connectEnd { s with inputs := rest, agent := .host } :=
    (step_of_inputs hin).trans (finishTransport_of_connect (s := { s with inputs := rest }) hx)
  rw [hStep]
  refine ⟨fun hn => connectEnd_of_nil hn, fun a d hn hDraw => ?_⟩
  rw [connectEnd_of_drawsPort hDraw hn]
  cases a with
  | opened =>
    have hHist : d.hist = s.hist := (hist_of_drawsPort hDraw).trans rfl
    rw [← hHist]
    rfl
  | unresolvable | inUse | ioError | unsupported => rfl

/-- Settles O56: the host's two steps on both sides of TLOCK, and the permanent one as D_STOP. -/
theorem disconnectClosesThePort : Obligations.DisconnectClosesThePort := by
  refine fun s => ⟨fun _ => rfl, fun hs hk => (exec_disconnect_of_host hs).trans (if_pos hk),
    fun hs hk => (exec_disconnect_of_host hs).trans (if_neg hk), fun rest hin hx => ?last,
    exec_disconnect_permanent_of_host, fun hs h => ?stops, fun hs h => ?waits⟩
  case last => exact (step_of_inputs hin).trans (finishTransport_of_disconnect (s := { s with inputs := rest }) hx)
  case stops => rw [exec_disconnect_permanent hs, stopDispatcher_of_mayStop h]
  case waits => rw [exec_disconnect_permanent hs, stopDispatcher_of_not_mayStop h]

end Sys2Proof.Machine
end

section
/-! ## EXCHANGE under its own op number

At the exchange of CUR it is the attempt of section "An attempt" with the outcome as its reply (R270, R227; log 18). -/

namespace Sys2Proof.Machine

open Sys2Proof.Claim

theorem badExchange_iff (f : List Byte) (n : Nat) :
    badExchange f n = true ↔ 255 < f.length ∨ n = 0 ∨ 255 < n := by
  simp only [badExchange, Bool.or_eq_true, decide_eq_true_iff, or_assoc]
  rfl

section

variable {s : State} {f : List Byte} {n : Nat}

theorem exec_exchange_of_badExchange (hs : s.agent = .dispatcher) (h : badExchange f n = true) :
    exec (.exchange f n) s = .next (refusedWith s .badArgument 11#8 f) :=
  (guarded_of_dispatcher (i := .exchange f n) rfl hs _).trans (if_pos h)

theorem exec_exchange_of_atExchange {r : PendingRequest} (hs : s.agent = .dispatcher) (hGood : ¬ badExchange f n = true)
    (h : AtExchange s f n r) : exec (.exchange f n) s = beginExchange r false s := by
  obtain ⟨he, hc, hFrame, hLen⟩ := h
  refine ((guarded_of_dispatcher (i := .exchange f n) rfl hs _).trans (if_neg hGood)).trans ?_
  simp only [he, hc]
  exact if_pos ⟨hFrame, hLen⟩

end

/-- Settles O57: the cases of `beginExchange`, and the move that ends the exchange under way as `exchangeEnd_decides` has it. -/
theorem exchangeWritesThenDrains : Obligations.ExchangeWritesThenDrains := by
  refine ⟨fun s f n hs => ⟨rfl, fun h => exec_exchange_of_badExchange hs ((badExchange_iff f n).2 h),
    fun hf h1 hn h => exec_exchange_of_not_atExchange hs hf h1 hn h, fun r hf h1 hn h => ?begins⟩,
    fun s d r n a rest hin hx hc hDraw => ?ends⟩
  case begins =>
    have hGood : ¬ badExchange f n = true := by
      rw [badExchange_iff]
      omega
    rw [exec_exchange_of_atExchange hs hGood h]
    obtain ⟨-, -, rfl, rfl⟩ := h
    exact ⟨fun hk => beginExchange_of_held hk r false, fun hk ho => beginExchange_of_online hk ho r false,
      fun hk ho => beginExchange_offline_decides hk ho r false⟩
  case ends =>
    have hStep : step s = exchangeEnd n false { s with inputs := rest, agent := .dispatcher } :=
      (step_of_inputs hin).trans (finishTransport_of_exchange (s := { s with inputs := rest }) hx)
    rw [hStep]
    exact exchangeEnd_decides (s := { s with inputs := rest, agent := .dispatcher }) hc hDraw n false

end Sys2Proof.Machine
end

section
/-! ## TLOCK

While it is held no effect of an instruction reaches the transport (`Effect.keepsTransport`); an instruction that changes it ends
under way (`exec_takesLock`); and every last step of a transport operation frees it (`finishTransport_frees`): R264. -/

namespace Sys2Proof.Machine

open Sys2Proof.Claim

/-! ### While it is held -/

/-- The transport's elements are as they were (R264). -/
structure KeepsTransport (s t : State) : Prop where
  tlock : t.tlock = s.tlock
  xop : t.xop = s.xop
  txb : t.txb = s.txb
  rxb : t.rxb = s.rxb
  rxCount : t.rxCount = s.rxCount
  busState : t.busState = s.busState
  offlineReason : t.offlineReason = s.offlineReason
  portOpen : t.portOpen = s.portOpen

/-- Every effect on the transport needs TLOCK free. -/
theorem Effect.keepsTransport {s t : State} (h : Effect s t) (hHeld : s.tlock ≠ .free) : KeepsTransport s t := by
  cases h with
  | connectBegun _ _ hk | disconnectBegun hk | attemptBegun _ _ _ _ _ hk | attemptOffline _ _ _ _ hk
  | stopped _ _ _ hk => exact absurd hk hHeld
  | _ => exact ⟨rfl, rfl, rfl, rfl, rfl, rfl, rfl, rfl⟩

theorem exec_keepsTransport {i : Instr} {s t : State} (h : exec i s = .next t) (hHeld : s.tlock ≠ .free) :
    KeepsTransport s t := by
  obtain ⟨u, x, hu, rfl⟩ := exec_effect h
  obtain ⟨hLock, hXop, hTxb, hRxb, hCount, hBus, hReason, hPort⟩ := hu.keepsTransport hHeld
  exact ⟨hLock, hXop, hTxb, hRxb, hCount, hBus, hReason, hPort⟩

/-! ### Taking it -/

/-- A step that changes TLOCK is not the operation's last. -/
def TakesLock (s : State) (o : Step) : Prop := ∀ t, o = .next t → t.tlock ≠ s.tlock → t.result = .underWay

section

variable {s u : State}

theorem underWay_takesLock : TakesLock s (underWay u) := by
  intro t ht _
  cases ht
  rfl

theorem next_takesLock (h : u.tlock = s.tlock) : TakesLock s (.next u) := by
  intro t ht hne
  cases ht
  exact absurd h hne

theorem reply_takesLock (h : u.tlock = s.tlock) (v : Reply) : TakesLock s (reply v u) := next_takesLock h

theorem answer_takesLock (v : Reply) : TakesLock s (reply v s) := reply_takesLock rfl v

theorem refuse_takesLock (c : Cause) (info : List Byte) : TakesLock s (refuse c info s) := next_takesLock rfl

theorem notEnabled_takesLock : TakesLock s (notEnabled s) := next_takesLock rfl

theorem fault_takesLock (f : Fault) : TakesLock s (.fault f) := fun _ ht => nomatch ht

theorem ite_takesLock {p : Prop} [Decidable p] {a b : Step} (ha : TakesLock s a) (hb : TakesLock s b) :
    TakesLock s (if p then a else b) := by
  split
  · exact ha
  · exact hb

theorem guarded_takesLock {i : Instr} {k : Step} (h : TakesLock s k) : TakesLock s (guarded i s k) :=
  ite_takesLock h (refuse_takesLock _ _)

@[simp] theorem attemptEnded_tlock (s : State) (r : PendingRequest) (o : ExchangeOutcome) :
    (s.attemptEnded r o).tlock = s.tlock := by
  rcases attemptEnded_cases s r o with h | ⟨-, -, h⟩ | ⟨c, h⟩ <;> simp [h]

@[simp] theorem attemptEnded_xop (s : State) (r : PendingRequest) (o : ExchangeOutcome) :
    (s.attemptEnded r o).xop = s.xop := by
  rcases attemptEnded_cases s r o with h | ⟨-, -, h⟩ | ⟨c, h⟩ <;> simp [h]

theorem beginExchange_takesLock (r : PendingRequest) (b : Bool) : TakesLock s (beginExchange r b s) :=
  ite_takesLock notEnabled_takesLock
    (ite_takesLock underWay_takesLock (reply_takesLock (attemptEnded_tlock _ r _) _))

theorem enqueueRequest_takesLock (r : PendingRequest) : TakesLock s (enqueueRequest r s) :=
  ite_takesLock (refuse_takesLock _ _)
    (ite_takesLock (refuse_takesLock _ _) (ite_takesLock notEnabled_takesLock (reply_takesLock rfl _)))

theorem decoderFor_takesLock (k : Kind) (r : PendingRequest) (d : Except Fault Decoded) :
    TakesLock s (decoderFor k r d s) := by
  refine ite_takesLock ?_ (refuse_takesLock _ _)
  cases d with
  | ok d => exact answer_takesLock _
  | error f => exact fault_takesLock f

theorem routeBack_takesLock (r : PendingRequest) (v : Decoded → Reply) : TakesLock s (routeBack r v s) := by
  unfold routeBack
  split
  · exact reply_takesLock rfl _
  · exact fault_takesLock _

theorem stopDispatcher_takesLock : TakesLock s (stopDispatcher s) := by
  refine ite_takesLock ?_ notEnabled_takesLock
  split
  · exact reply_takesLock rfl _
  · exact fault_takesLock _

end

theorem exec_takesLock (i : Instr) (s : State) : TakesLock s (exec i s) := by
  unfold exec
  cases i with
  | connect =>
    exact guarded_takesLock (ite_takesLock (refuse_takesLock _ _) (ite_takesLock (answer_takesLock _)
      (ite_takesLock underWay_takesLock notEnabled_takesLock)))
  | disconnect permanent =>
    exact guarded_takesLock (ite_takesLock stopDispatcher_takesLock (ite_takesLock underWay_takesLock notEnabled_takesLock))
  | exchange f n =>
    refine guarded_takesLock (ite_takesLock (refuse_takesLock _ _) ?_)
    split
    · exact ite_takesLock (beginExchange_takesLock _ false) notEnabled_takesLock
    · exact notEnabled_takesLock
  | dAttempt =>
    refine guarded_takesLock ?_
    split
    · exact ite_takesLock (refuse_takesLock _ _) (beginExchange_takesLock _ true)
    · exact notEnabled_takesLock
  | openCmd a0 a1 | closeCmd a0 a1 | stopCmd a0 a1 | qpos a0 a1 | qstate a0 a1 | qdir a0 a1 | handshake a0 a1
  | register n0 n1 | enqueue r => exact guarded_takesLock (enqueueRequest_takesLock _)
  | move a0 a1 p | setdir a0 a1 d | generic p n t =>
    exact guarded_takesLock (ite_takesLock (refuse_takesLock _ _) (enqueueRequest_takesLock _))
  | send o p n t =>
    exact guarded_takesLock (ite_takesLock (refuse_takesLock _ _) (ite_takesLock (refuse_takesLock _ _)
      (ite_takesLock notEnabled_takesLock underWay_takesLock)))
  | crcInit | crcByte b | crcRead | expLen p hint | mkOpen o a0 a1 | mkClose o a0 a1 | mkStop o a0 a1 | mkQpos o a0 a1
  | mkQstate o a0 a1 | mkQdir o a0 a1 | mkHandshake o a0 a1 | mkRegister o n0 n1 | vBase buf count n | vCrc buf count
  | vAddr r buf | vEcho r buf | vRegack r buf | vSuccess r buf count | uartEncode bs =>
    exact guarded_takesLock (reply_takesLock rfl _)
  | checksum bs | build p | mkMove o a0 a1 p | mkSetdir o a0 a1 d | mkGeneric o p n t | readStatus k =>
    exact guarded_takesLock (ite_takesLock (refuse_takesLock _ _) (answer_takesLock _))
  | decPos r buf count | decState r buf count | decDir r buf count | decVersion r buf count | decRegack r buf count =>
    exact guarded_takesLock (decoderFor_takesLock _ r _)
  | dispose => exact guarded_takesLock (ite_takesLock (answer_takesLock _) (reply_takesLock rfl _))
  | dSleep | dWake => exact guarded_takesLock (ite_takesLock (reply_takesLock rfl _) notEnabled_takesLock)
  | dRetry =>
    exact guarded_takesLock
      (ite_takesLock (ite_takesLock (reply_takesLock rfl _) (reply_takesLock rfl _)) notEnabled_takesLock)
  | dFetch =>
    refine guarded_takesLock (ite_takesLock ?_ notEnabled_takesLock)
    split
    · exact reply_takesLock rfl _
    · exact notEnabled_takesLock
  | dDeliver =>
    refine guarded_takesLock ?_
    split
    · exact routeBack_takesLock _ _
    · exact notEnabled_takesLock
  | decode r buf count => exact guarded_takesLock (ite_takesLock (routeBack_takesLock r _) notEnabled_takesLock)
  | dStop => exact guarded_takesLock stopDispatcher_takesLock

/-! ### Freeing it -/

/-- A step that answers a state with TLOCK free and no transport operation under way. -/
def FreesLock (o : Step) : Prop := ∃ t, o = .next t ∧ t.tlock = .free ∧ t.xop = .idle

theorem reply_freesLock {u : State} (hk : u.tlock = .free) (hx : u.xop = .idle) (v : Reply) : FreesLock (reply v u) :=
  ⟨_, rfl, hk, hx⟩

theorem connectEnd_freesLock (s : State) : FreesLock (connectEnd s) := by
  by_cases hn : s.portName = []
  · exact ⟨_, connectEnd_of_nil hn, rfl, rfl⟩
  · refine ⟨_, connectEnd_of_ne_nil hn, ?_⟩
    cases s.portAnswer <;> exact ⟨rfl, rfl⟩

theorem disconnectEnd_freesLock (s : State) : FreesLock (disconnectEnd s) := reply_freesLock rfl rfl _

theorem exchangeAnswered_tlock (s : State) (n : Nat) (a : LineAnswer) : (s.exchangeAnswered n a).tlock = .free := by
  cases a <;> rfl

/-- With a CUR or, as the invariants exclude, without one. -/
theorem exchangeEnd_freesLock (n : Nat) (b : Bool) (s : State) : FreesLock (exchangeEnd n b s) := by
  unfold exchangeEnd
  cases s.cur with
  | none => exact reply_freesLock (exchangeAnswered_tlock _ n _) (exchangeAnswered_xop _ n _) _
  | some r =>
    exact reply_freesLock ((attemptEnded_tlock _ r _).trans (exchangeAnswered_tlock _ n _))
      ((attemptEnded_xop _ r _).trans (exchangeAnswered_xop _ n _)) _

theorem finishTransport_freesLock {s : State} (h : s.xop ≠ .idle) : FreesLock (finishTransport s) := by
  cases hx : s.xop with
  | idle => exact absurd hx h
  | connect => exact finishTransport_of_connect hx ▸ connectEnd_freesLock _
  | disconnect => exact finishTransport_of_disconnect hx ▸ disconnectEnd_freesLock _
  | exchange n b => exact finishTransport_of_exchange hx ▸ exchangeEnd_freesLock n b _

/-- Settles O58: a held TLOCK keeps the transport, so only a free one is taken, under way; the last step frees it. -/
theorem transportLockDiscipline : Obligations.TransportLockDiscipline := by
  refine ⟨fun i s t h hHeld => ?held, fun i s t h hne => ⟨?free, exec_takesLock i s t h hne⟩, fun s rest hin hx => ?frees⟩
  case held =>
    obtain ⟨hLock, hXop, hTxb, hRxb, hCount, hBus, hReason, hPort⟩ := exec_keepsTransport h hHeld
    exact ⟨hLock, hXop, hTxb, hRxb, hCount, hBus, hReason, hPort⟩
  case free =>
    by_contra hHeld
    exact hne (exec_keepsTransport h hHeld).tlock
  case frees =>
    rw [step_of_inputs hin]
    exact finishTransport_freesLock (s := { s with inputs := rest }) hx

end Sys2Proof.Machine
end

section
/-! ## The columns of the operations

Who may invoke an operation is decided by its class alone (R102, R320): each class admits exactly its agents, so the permissions
of a list of operations follow from their common class. -/

namespace Sys2Proof.Machine

open Sys2Proof.Claim

theorem permitted_iff_of_producer {i : Instr} (hi : invokedBy i = .producer) (a : Agent) :
    permitted i a = true ↔ ∃ q, a = .producer q := by
  rw [permitted, hi]
  cases a <;> simp [AgentClass.admits]

theorem permitted_iff_of_dispatcher {i : Instr} (hi : invokedBy i = .dispatcher) (a : Agent) :
    permitted i a = true ↔ a = .dispatcher := by
  rw [permitted, hi]
  cases a <;> simp [AgentClass.admits]

/-- A list of operations with one entry in the column of R102. -/
theorem invokedBy_of_mem {c : AgentClass} {l : List Instr} (h : l.map invokedBy = List.replicate l.length c) :
    ∀ i ∈ l, invokedBy i = c :=
  List.map_eq_replicate_iff.1 h

/-- Settles O6: the operations of each list have one class, and what a class does not admit is refused as O5 has it. -/
theorem agentColumns : Obligations.AgentColumns := by
  refine ⟨fun a b => ?host, fun a o x y z p n t g r i hi => ?producer, fun a r buf p c n hint i hi => ?any,
    fun a r buf c n i hi => ?dispatcher, unassignedOrForbiddenOpRefused.2⟩
  case host =>
    exact ⟨permitted_iff_of_host rfl a, permitted_iff_of_host rfl a, permitted_iff_of_dispatcher rfl a,
      permitted_iff_of_host rfl a, permitted_iff_of_host rfl a, permitted_iff_of_host rfl a, permitted_iff_of_host rfl a⟩
  case producer => exact permitted_iff_of_producer (invokedBy_of_mem rfl i hi) a
  case any => exact permitted_of_any (invokedBy_of_mem rfl i hi) a
  case dispatcher => exact permitted_iff_of_dispatcher (invokedBy_of_mem rfl i hi) a

end Sys2Proof.Machine
end

section
/-! ## The first step after reset

With no move listed and nothing under way, held or waiting, the dispatcher moves (log 7); its state after reset selects D_SLEEP
(R341, R225). -/

namespace Sys2Proof.Machine

section

variable {s : State}

theorem step_of_no_inputs (hin : s.inputs = []) : step s = idleStep s := by
  simp only [step, hin]

/-- The default order of log 7 comes to the dispatcher when no other agent has anything to finish. -/
theorem idleStep_of_nothing_pending (hx : s.xop = .idle) (hr : s.connectReturns = 0) (hh : s.held = []) (hw : s.sends = []) :
    idleStep s = dispatcherStep s := by
  have hReturn : wasEnabled (returnConnect s) = false := by
    rw [returnConnect_of_waits (.inl hr)]
    rfl
  simp [idleStep, hx, hReturn, hh, hw, firstEnabled]

theorem step_of_selects_dSleep (hin : s.inputs = []) (hx : s.xop = .idle) (hr : s.connectReturns = 0) (hh : s.held = [])
    (hw : s.sends = []) (hsel : Selects s .dSleep) :
    step s = .next { s with dstate := .sleep, agent := .dispatcher, result := .ok .unit } := by
  calc step s = idleStep s := step_of_no_inputs hin
    _ = dispatcherStep s := idleStep_of_nothing_pending hx hr hh hw
    _ = exec .dSleep { s with agent := .dispatcher } := dispatcherStep_of_selects hsel
    _ = .next { s with dstate := .sleep, agent := .dispatcher, result := .ok .unit } :=
        exec_dSleep_of_selects (s := { s with agent := .dispatcher }) rfl hsel

end

theorem reset_selects_dSleep : Selects State.reset .dSleep := ⟨rfl, rfl, rfl⟩

/-- Settles O9: nothing is pending at reset, where the dispatcher is idle with an empty queue. -/
theorem firstStepIsSleep : Obligations.FirstStepIsSleep :=
  step_of_selects_dSleep rfl rfl rfl rfl rfl reset_selects_dSleep

end Sys2Proof.Machine
end
